-- ==== Sys2Proof/Word.lean ====
section
/-! DEFINITION. The word types of the LW2140: octets, device time, the wrapping counters, station addresses,
and the index types of the sixteen session records and the eight fetch slots. -/

namespace Sys2Proof

/-- One octet of a frame. -/
abbrev Byte := BitVec 8

/-- Device time in milliseconds: it runs from 0 to 2^32 - 1 and wraps to 0 (00_scope.md, "Device time"). -/
abbrev Time := BitVec 32

/-- A counter that wraps from 4,294,967,295 to 0 (R19, R52, R157, R159, R160, R163, R167). -/
abbrev Count32 := BitVec 32

/-- A 64-bit counter (R52, R163). -/
abbrev Count64 := BitVec 64

/-- A station address of 6 octets, its first octet the most significant (R162, R169). -/
abbrev Addr := BitVec 48

/-- An index of the session table, 0 to 15 (R1). -/
abbrev SessionIx := Fin 16

/-- A number of the slot table, 0 to 7 (R107). -/
abbrev SlotIx := Fin 8

end Sys2Proof
end

