-- ==== Sys2Proof/Config.lean ====
section
/-! DEFINITION. The free values of the model: what the manual leaves open and the model does not choose.
Each is an opaque constant, applied to the counter that State.choices holds, so that no proof can see its value. -/

namespace Sys2Proof

/-- FREE VALUE (log entry 3). Which of several events that are due at one device time is taken first, and whether a
transmission in progress ends before the next millisecond: the manual lets either be taken first (R71, R84, R105, R125,
R143, R155, R168) and puts port timing outside its scope (00_scope.md). -/
opaque Config.choice : Nat → Nat

/-- FREE VALUE (log entry 4). The note type that a REPLY carries for a position of a batch whose note type could not be
read, because an earlier note of the batch ran past the end of the frame (R170 gives the code, not the type). -/
opaque Config.unreadableType : Nat → Byte

/-- FREE VALUE (log entry 9). The order in which the windows of one window end are evaluated when the block runs by itself:
each is an event of its own, and the manual ranks none before another (R131, R143). -/
opaque Config.windowOrder : Nat → List SessionIx

end Sys2Proof
end

