-- ==== Sys2Proof/Syntax.lean ====
section
/-! DEFINITION. The commands of the LW2140: one constructor of Instr for each row of spec/opcode_table.json, with the
operands the row's rule gives it. A note's operand is the note as the layouts of R169 deliver it; none stands for a note
whose structure fails (R2, step 1). Numeric fields are natural numbers, since the part clamps and compares them;
Instr.WellFormed says which of them their layouts can carry. -/

namespace Sys2Proof

/-- Arbitration class at the fetch gate (R6). -/
inductive ArbClass where
  | prime
  | companion
  | background
  deriving DecidableEq, Repr

/-- The profile's choice of draw supervision: NONE, START or LIVE (R6). -/
inductive DrawKind where
  | unwatched
  | start
  | live
  deriving DecidableEq, Repr

/-- A player's playback state (R54). -/
inductive Playback where
  | stopped
  | playing
  | stalled
  deriving DecidableEq, Repr

/-- The outcome a DONE reports (R121). -/
inductive FetchOutcome where
  | complete
  | abandoned
  deriving DecidableEq, Repr

/-- The transport of a flow key (R162). -/
inductive Transport where
  | tcp
  | udp
  deriving DecidableEq, Repr

/-- A remote IP address; an IPv4 and an IPv6 address are never equal (R162). -/
inductive IpAddr where
  | v4 (a : BitVec 32)
  | v6 (a : BitVec 128)
  deriving DecidableEq, Repr

/-- A flow key (R162). -/
structure FlowKey where
  transport : Transport
  remote : IpAddr
  remotePort : BitVec 16
  localPort : BitVec 16
  deriving DecidableEq, Repr

/-- The profile's pin set: the effective values that hints may not change (R6, R13). -/
structure Pins where
  ceiling : Bool
  target : Bool
  speed : Bool
  deriving DecidableEq, Repr

/-- A three-valued optional field of PROFILE: omitted from the note, given as absent, or given with a value (R6, R169). -/
inductive Given (α : Type) where
  | omitted
  | absent
  | value (a : α)
  deriving DecidableEq, Repr

/-- A rung record: bitrate in kbit/s and skip flag (02_rendition_ladders.md, 2.1). -/
structure Rung where
  bitrate : Nat
  skip : Bool
  deriving DecidableEq, Repr

/-- A frame as a port's MAC receives it: its octets from the destination address to the last octet before the frame check
sequence, and whether the MAC finds the frame check sequence good (R158, R162; log entry 5). -/
structure Frame where
  bytes : List Byte
  fcsOk : Bool
  deriving DecidableEq, Repr

/-- The fields of SETUP (R172). -/
structure SetupNote where
  linkFloor : Option Nat := none
  margin : Option Nat := none
  maxOutstanding : Option Nat := none
  grantSpacing : Option Nat := none
  high : Option Nat := none
  mid : Option Nat := none
  low : Option Nat := none
  wA : Option Nat := none
  wB : Option Nat := none
  wS : Option Nat := none
  wM : Option Nat := none
  idleLimit : Option Nat := none
  deriving DecidableEq, Repr

/-- The fields of PROFILE (R6). -/
structure ProfileNote where
  session : Nat
  weight : Option Nat := none
  cls : Option ArbClass := none
  uplinkPriority : Given Nat := .omitted
  bufferTarget : Option Nat := none
  lowGuard : Option Nat := none
  panicLevel : Option Nat := none
  upHold : Option Nat := none
  freshnessLimit : Given Nat := .omitted
  stallThreshold : Option Nat := none
  outstandingLimit : Option Nat := none
  drawKind : Option DrawKind := none
  retryLimit : Option Nat := none
  retryInterval : Option Nat := none
  pins : Option Pins := none
  initialSpeed : Option Nat := none
  defaultCeiling : Option Nat := none
  deriving DecidableEq, Repr

/-- The fields of LADDER LOAD (02_rendition_ladders.md, 2.2). -/
structure LadderNote where
  session : Nat
  first : Nat
  publish : Bool
  records : List Rung
  rungCount : Option Nat := none
  fallback : Option Nat := none
  deriving DecidableEq, Repr

/-- The fields of TETHER (09_tethered_sessions.md, 9.2). -/
structure TetherNote where
  leader : Nat
  follower : Nat
  map : Option (List Nat) := none
  deriving DecidableEq, Repr

/-- The fields of FLOW BIND and FLOW UNBIND (R164). -/
structure FlowNote where
  session : Nat
  key : FlowKey
  deriving DecidableEq, Repr

/-- The fields of ASK (R109); an absent flush flag is clear. -/
structure AskNote where
  session : Nat
  segment : BitVec 32
  duration : Nat
  flush : Bool := false
  deriving DecidableEq, Repr

/-- The fields of DONE (R121). -/
structure DoneNote where
  session : Nat
  tag : Byte
  outcome : FetchOutcome
  deriving DecidableEq, Repr

/-- The fields of ABORT (R123). -/
structure AbortNote where
  session : Nat
  tag : Byte
  deriving DecidableEq, Repr

/-- The fields of PLAY (R63, R14). -/
structure PlayNote where
  session : Nat
  state : Playback
  level : Option Nat := none
  ceiling : Option Nat := none
  target : Option Nat := none
  speed : Option Nat := none
  deriving DecidableEq, Repr

/-- The commands of the part, one for each row of spec/opcode_table.json. A note command stands for the next note of the
batch in execution; a timer command names the session, slot or flow whose timer it is. -/
inductive Instr where
  | powerOn
  | resetInput
  | resetInputRelease
  | lineCarrierUp
  | lineCarrierDown
  | stationCarrierEvent (up : Bool)
  | downlinkFrame (f : Frame)
  | uplinkFrame (f : Frame)
  | controlFrame (f : Frame)
  | batch
  | claim (part : Option Addr)
  | setup (note : Option SetupNote)
  | deviceStatus (note : Option Unit)
  | linkSnapshot (note : Option Unit)
  | linkRestart (note : Option Unit)
  | deviceReset (note : Option Unit)
  | deviceResetTaken
  | openSession (session : Option Nat)
  | sessionReset (session : Option Nat)
  | closeSession (session : Option Nat)
  | sessionStatus (session : Option Nat)
  | profile (note : Option ProfileNote)
  | ladderLoad (note : Option LadderNote)
  | tether (note : Option TetherNote)
  | untether (session : Option Nat)
  | rearm (session : Option Nat)
  | flowBind (note : Option FlowNote)
  | flowUnbind (note : Option FlowNote)
  | askFetch (note : Option AskNote)
  | doneFetch (note : Option DoneNote)
  | abortFetch (note : Option AbortNote)
  | play (note : Option PlayNote)
  | unknownNote (noteType : Byte)
  | stationTransmit
  | lineTransmit
  | linkSample
  | emptyPoint (session : SessionIx)
  | freshnessTimerExpiry (session : SessionIx)
  | upHoldExpiry (session : SessionIx)
  | deadline (slot : SlotIx)
  | expiry (slot : SlotIx)
  | spacingHoldExpiry
  | drainTimerExpiry (session : SessionIx)
  | drawWindow (order : List SessionIx)
  | retryExpiry (session : SessionIx)
  | flowIdle (key : FlowKey)
  | busyMillisecond
  deriving DecidableEq, Repr

end Sys2Proof
end

