-- ==== Sys2Proof/Machine/State.lean ====
section
/-! DEFINITION. The state of the LW2140 as plain data, block by block, and the state right after reset. Fields marked
MODEL are the model's own and stand in no rule of the manual; each is named in a log entry. -/

namespace Sys2Proof.Machine

/-- A session's administrative state (01_sessions.md, 1.2). -/
inductive Admin where
  | vacant
  | unprofiled
  | primed
  | streaming
  deriving DecidableEq, Repr

/-- The source of an effective value (R13). -/
inductive Source where
  | pinned
  | profile
  | hint
  deriving DecidableEq, Repr

/-- A session's freshness state (R54). -/
inductive Freshness where
  | fresh
  | blind
  | recovering
  deriving DecidableEq, Repr

/-- A session's draw state: OFF, WATCHING, RETRY_WAIT or LATCHED (R128). -/
inductive DrawPhase where
  | off
  | watching
  | retryWait
  | latched
  deriving DecidableEq, Repr

/-- The causes of R178, highest rank first; the first two are device causes. -/
inductive Cause where
  | linkDown
  | linkUp
  | latched
  | overdraw
  | resync
  | blind
  | expired
  | deadlineMiss
  | flowExpired
  | retry
  deriving DecidableEq, Repr

/-- A set of pending causes: bit n stands for the cause numbered n (R169, R178). -/
abbrev CauseSet := BitVec 16

/-- The reply codes of R169 and R177. -/
inductive ReplyCode where
  | accepted
  | acceptedClamped
  | unknownNote
  | malformed
  | notClaimed
  | claimedElsewhere
  | badSession
  | sessionVacant
  | sessionBusy
  | notProfiled
  | noLadder
  | ladderInvalid
  | tethered
  | tetherInvalid
  | askPending
  | unknownTag
  | lateTag
  | tableFull
  | flowLimit
  | duplicateFlow
  | noSuchFlow
  deriving DecidableEq, Repr

/-- A session's profile (R6); an absent uplink priority means no rewrite, an absent freshness limit no supervision. -/
structure Profile where
  weight : Nat
  cls : ArbClass
  uplinkPriority : Option Nat
  bufferTarget : Nat
  lowGuard : Nat
  panicLevel : Nat
  upHold : Nat
  freshnessLimit : Option Nat
  stallThreshold : Nat
  outstandingLimit : Nat
  drawKind : DrawKind
  retryLimit : Nat
  retryInterval : Nat
  pins : Pins
  initialSpeed : Nat
  defaultCeiling : Nat
  deriving DecidableEq, Repr

/-- The effective values with their sources, and the effective guards (R13, R15). -/
structure Effective where
  ceiling : Nat
  ceilingSource : Source
  target : Nat
  targetSource : Source
  speed : Nat
  speedSource : Source
  lowGuard : Nat
  panicLevel : Nat
  deriving DecidableEq, Repr

/-- A published ladder; its rung count is the number of its records (R21). -/
structure Ladder where
  rungs : List Rung
  fallback : Nat
  deriving DecidableEq, Repr

/-- A staging ladder (R20). -/
structure Staging where
  count : Option Nat
  rungs : Vector (Option Rung) 12
  fallback : Option Nat
  deriving DecidableEq, Repr

/-- The fast and slow estimates, present together (R36). -/
structure Estimates where
  fast : Nat
  slow : Nat
  deriving DecidableEq, Repr

/-- A session's buffer model and freshness supervision (R54). -/
structure BufferModel where
  playback : Playback
  anchor : Nat
  anchorTime : Time
  emptyPoint : Option Time
  freshness : Freshness
  freshTimer : Option Time
  deriving DecidableEq, Repr

/-- A contender's share, floor need and cap need, present together (R73). -/
structure Shares where
  share : Nat
  floorNeed : Nat
  capNeed : Nat
  deriving DecidableEq, Repr

/-- The last evaluated window's end, draw and contended indication (R131). -/
structure WindowReport where
  windowEnd : Time
  draw : Nat
  contended : Bool
  deriving DecidableEq, Repr

/-- A session's draw state and its two window quantities (R128, R130, R131). The window that ends at a device time holds the
times before it, so what is credited at a window end before the window is taken belongs to the next window: nextBytes and
nextMark, MODEL, hold it until then (R130; log entry 2). -/
structure DrawState where
  phase : DrawPhase := .off
  cap : Option Nat := none
  retriesUsed : Nat := 0
  retryTimer : Option Time := none
  stageClock : Nat := 0
  overTime : Nat := 0
  quietRun : Nat := 0
  openMark : Bool := false
  penaltyMark : Bool := false
  entryTime : Option Time := none
  settled : Bool := false
  lastWindow : Option WindowReport := none
  windowBytes : Nat := 0
  receivingMark : Bool := false
  nextBytes : Nat := 0
  nextMark : Bool := false
  deriving DecidableEq, Repr

/-- One follower of a leader, with its rung map and the default indication (R145). -/
structure FollowerEntry where
  index : SessionIx
  map : Vector Nat 12
  isDefault : Bool
  deriving DecidableEq, Repr

/-- A session's tether role; a leader's list stands in join order (R145). -/
inductive TetherRole where
  | independent
  | leader (followers : List FollowerEntry)
  | follower (leader : SessionIx)
  deriving DecidableEq, Repr

/-- The ten statistics of R19. -/
structure Stats where
  segmentsCompleted : Count32 := 0
  shortFetches : Count32 := 0
  bytesAttributed : Count32 := 0
  unsolicitedBytes : Count32 := 0
  deadlineMisses : Count32 := 0
  expiries : Count32 := 0
  stalls : Count32 := 0
  overdraws : Count32 := 0
  rungMovesUp : Count32 := 0
  rungMovesDown : Count32 := 0
  deriving DecidableEq, Repr

/-- One record of the session table (R5). -/
structure Session where
  admin : Admin
  profile : Option Profile
  eff : Option Effective
  staging : Staging
  published : Option Ladder
  generation : Byte
  estimates : Option Estimates
  buffer : BufferModel
  shares : Option Shares
  rung : Option Nat
  upHold : Option Time
  nextTag : Byte
  expiredTags : List Byte
  missRun : Nat
  drainTimer : Option Time
  draw : DrawState
  role : TetherRole
  causes : CauseSet
  stats : Stats
  deriving DecidableEq, Repr

/-- A slot's state while occupied: GRANTED, or RECEIVING with its first and last arrival times (R108). -/
inductive SlotPhase where
  | granted
  | receiving (first last : Time)
  deriving DecidableEq, Repr

/-- The record of one granted fetch (R108), with the draw monitor's over-low mark (R136) and, MODEL, the place of its
grant in the sequence of all grants (log entry 11). -/
structure Slot where
  session : SessionIx
  tag : Byte
  segment : BitVec 32
  duration : Nat
  rung : Nat
  bitrate : Nat
  generation : Byte
  grantTime : Time
  deadline : Option Time
  expiry : Time
  missed : Bool
  bytes : Nat
  phase : SlotPhase
  overLow : Bool
  order : Nat
  deriving DecidableEq, Repr

/-- One queued ask (R107). -/
structure Ask where
  session : SessionIx
  segment : BitVec 32
  duration : Nat
  flush : Bool
  arrival : Time
  deriving DecidableEq, Repr

/-- The fetch gate's device state (R107); MODEL: the number of grants made, from which a slot's order is taken. -/
structure Gate where
  askQueue : List Ask
  slots : Vector (Option Slot) 8
  spacingHold : Option Time
  grantsMade : Nat
  deriving DecidableEq, Repr

/-- The device values that SETUP sets (R172). -/
structure Setup where
  linkFloor : Nat
  margin : Nat
  maxOutstanding : Nat
  grantSpacing : Nat
  high : Nat
  mid : Nat
  low : Nat
  wA : Nat
  wB : Nat
  wS : Nat
  wM : Nat
  idleLimit : Nat
  deriving DecidableEq, Repr

/-- The link meter, the link estimate and the interval totals (R46, R49, R52). -/
structure LinkMeter where
  estimate : Nat
  busyAcc : Nat
  byteAcc : Nat
  intervalStart : Time
  downlinkBytes : Count64
  busyTime : Count32
  linkSamples : Count32
  deriving DecidableEq, Repr

/-- The share allocator's device state (R73). -/
structure Allocation where
  total : Nat
  spare : Nat
  starved : Bool
  deriving DecidableEq, Repr

/-- The two addresses of a claimed part (R171). -/
structure Claim where
  part : Addr
  player : Addr
  deriving DecidableEq, Repr

/-- One note of a control frame as its envelope delivers it; readable is clear for a note that runs past the end of the
frame and for every note behind it (R169, R170). -/
structure RawNote where
  noteType : Option Byte
  readable : Bool
  mask : Nat
  body : List Byte
  deriving DecidableEq, Repr

/-- What has become of the reply frame of the batch in execution (R160). -/
inductive ReplyProgress where
  | notBegun
  | begun
  | dropped
  deriving DecidableEq, Repr

/-- The batch in execution: its control frame's source and batch number, the position of its next note, the notes not yet
taken, how many status notes it has held, and its reply frame's progress (R170). -/
structure Batch where
  source : Addr
  number : BitVec 16
  position : Nat
  rest : List RawNote
  statusNotes : Nat
  reply : ReplyProgress
  deriving DecidableEq, Repr

/-- A DEVICE RESET's progress (R175): none; reset-pending while its reply frame is queued or being sent; due when the event
that takes the reset has happened. -/
inductive ResetPhase where
  | quiet
  | awaitingReply
  | due
  deriving DecidableEq, Repr

/-- The control note unit: claim, batch in execution, control input queue, device causes, last top attention sent,
and the pending reset (R167, R170, R171, R175, R178, R179). -/
structure Control where
  claim : Option Claim
  batch : Option Batch
  inputQueue : List (List Byte)
  devicePending : CauseSet
  lastTop : Option (Cause × SessionIx)
  resetPhase : ResetPhase
  deriving DecidableEq, Repr

/-- The fields of a REPLY (R169, R177). -/
structure Reply where
  position : Nat
  noteType : Byte
  code : ReplyCode
  detail : Option Nat
  payload : Option (List Byte)
  deriving DecidableEq, Repr

/-- The fields of a GRANT (R116, R169). -/
structure GrantNote where
  session : SessionIx
  tag : Byte
  segment : BitVec 32
  slot : SlotIx
  rung : Nat
  bitrate : Nat
  generation : Byte
  expiryOffset : Nat
  deadlineOffset : Option Nat
  deriving DecidableEq, Repr

/-- The fields of an ADVISORY (R119, R169). -/
structure AdvisoryNote where
  session : SessionIx
  tag : Byte
  rung : Nat
  bitrate : Nat
  generation : Byte
  deriving DecidableEq, Repr

/-- The fields of an ATTENTION (R169, R179). -/
structure AttentionNote where
  cause : Cause
  session : SessionIx
  pending : CauseSet
  deriving DecidableEq, Repr

/-- A note of a report frame (R160). -/
inductive OutNote where
  | reply (r : Reply)
  | grant (g : GrantNote)
  | advisory (a : AdvisoryNote)
  | attention (a : AttentionNote)
  deriving DecidableEq, Repr

/-- A report frame in the report queue (R160): isReply tells a reply frame from a frame of part-originated notes, isOpen
an open frame from a closed one, and resetReply marks the reply frame of a DEVICE RESET (R175). -/
structure ReportFrame where
  isReply : Bool
  batch : BitVec 16
  dest : Addr
  isOpen : Bool
  resetReply : Bool
  notes : List OutNote
  deriving DecidableEq, Repr

/-- A transmission in progress: the frame's octets up to its frame check sequence (R161). -/
structure Transmission where
  bytes : List Byte
  resetReply : Bool
  deriving DecidableEq, Repr

/-- A port's carrier state and the transmission it has in progress (R157). -/
structure Port where
  carrier : Bool
  sending : Option Transmission
  deriving DecidableEq, Repr

/-- The frame path: both ports, the forwarding queues, the report queue and the counters (R157 to R160, R163, R167). -/
structure FramePath where
  line : Port
  station : Port
  downlinkQueue : List (List Byte)
  uplinkQueue : List (List Byte)
  reportQueue : List ReportFrame
  downlinkDrops : Count32
  uplinkDrops : Count32
  reportNotesDropped : Count32
  controlFramesDropped : Count32
  otherBytes : Count64
  carrierDowns : Count32
  deriving DecidableEq, Repr

/-- One entry of the flow table (R163). -/
structure FlowEntry where
  key : FlowKey
  session : SessionIx
  bindTime : Time
  lastHit : Option Time
  hits : Count32
  deriving DecidableEq, Repr

/-- The state of the part. MODEL fields: msDue and windowDue (the millisecond just begun, the window just ended, have not
been taken; log entry 2), choices (the place in the sequence of free choices; log entries 3 and 4) and pending (the commands
that are waiting, first in, first out; log entry 1). resetAsserted is the level of the reset input. -/
structure State where
  time : Time
  sessions : Vector Session 16
  gate : Gate
  setup : Setup
  meter : LinkMeter
  alloc : Allocation
  control : Control
  path : FramePath
  flows : List FlowEntry
  resetAsserted : Bool
  msDue : Bool
  windowDue : Bool
  choices : Nat
  pending : List Instr
  deriving DecidableEq, Repr

/-- No command of this block stops it with a fault: every rule of the manual that meets unacceptable input refuses a note
by a reply, clamps a field or drops a frame, and the part goes on (00_scope.md, "Refusal, clamping and dropping"). -/
inductive Fault where
  deriving DecidableEq, Repr

/-- Reasons for which a command has no meaning in the model. -/
inductive Refusal where
  /-- Raised by an arm of exec for a command that has no meaning yet; no arm raises it. Safe: the run stops. -/
  | notModelled (mnemonic : String)
  deriving DecidableEq, Repr

/-- The staging ladder that OPEN sets: every part absent (R20). -/
def Staging.empty : Staging :=
  { count := none, rungs := Vector.replicate 12 none, fallback := none }

/-- The record that OPEN establishes at a device time, but for its admin state (R5). -/
def Session.starting (admin : Admin) (now : Time) : Session :=
  { admin := admin, profile := none, eff := none, staging := Staging.empty, published := none, generation := 0,
    estimates := none,
    buffer := { playback := .stopped, anchor := 0, anchorTime := now, emptyPoint := none, freshness := .fresh,
                freshTimer := none },
    shares := none, rung := none, upHold := none, nextTag := 0, expiredTags := [], missRun := 0, drainTimer := none,
    draw := {}, role := .independent, causes := 0, stats := {} }

/-- A VACANT record: it has no observable content (R1); the model keeps the starting values in it (log entry 6). -/
def Session.vacant : Session := Session.starting .vacant 0

/-- The SETUP values after reset (R172, R132). -/
def Setup.reset : Setup :=
  { linkFloor := 3000, margin := 13, maxOutstanding := 4, grantSpacing := 40, high := 40, mid := 28, low := 20,
    wA := 2000, wB := 6000, wS := 1500, wM := 3000, idleLimit := 120 }

/-- A port after reset: its carrier down, nothing in transmission (R157). -/
def Port.reset : Port := { carrier := false, sending := none }

/-- The state right after power-on (R1, R49, R52, R73, R107, R157 to R167, R171, R178, R179): every session VACANT, every
queue and table empty, the link estimate at the link floor and the allocation that its re-seed leaves. -/
def State.reset : State :=
  { time := 0
    sessions := Vector.replicate 16 Session.vacant
    gate := { askQueue := [], slots := Vector.replicate 8 none, spacingHold := none, grantsMade := 0 }
    setup := Setup.reset
    meter := { estimate := 3000, busyAcc := 0, byteAcc := 0, intervalStart := 0, downlinkBytes := 0, busyTime := 0,
               linkSamples := 0 }
    alloc := { total := 2437, spare := 2437, starved := false }
    control := { claim := none, batch := none, inputQueue := [], devicePending := 0, lastTop := none,
                 resetPhase := .quiet }
    path := { line := Port.reset, station := Port.reset, downlinkQueue := [], uplinkQueue := [], reportQueue := [],
              downlinkDrops := 0, uplinkDrops := 0, reportNotesDropped := 0, controlFramesDropped := 0, otherBytes := 0,
              carrierDowns := 0 }
    flows := []
    resetAsserted := false
    msDue := false
    windowDue := false
    choices := 0
    pending := [] }

end Sys2Proof.Machine
end

