-- ==== Sys2Proof/Decode.lean ====
section
/-! DEFINITION. Decoding: the notes of a control frame by the layouts of R169, total on any octets; and the word decoder
the host asks for, which has no row to read since no row of spec/opcode_table.json gives bits. -/

namespace Sys2Proof

open Sys2Proof.Machine

/-- A reader of a note's body: the value and the octets that follow it, or none where the body does not hold it. -/
abbrev Reader (α : Type) := StateT (List Byte) Option α

/-- Reads n octets, most significant first, onto an accumulator (R169). -/
def readOctets : Nat → Nat → List Byte → Option (Nat × List Byte)
  | 0, acc, bs => some (acc, bs)
  | _ + 1, _, [] => none
  | n + 1, acc, b :: bs => readOctets n (acc * 256 + b.toNat) bs

/-- A numeric field of n octets (R169). -/
def readNat (n : Nat) : Reader Nat := fun bs => readOctets n 0 bs

/-- An enumerated value: one octet, numbered from 0; a number the list does not hold names nothing (R2, R169). -/
def readEnum {α : Type} (values : List α) : Reader α := fun bs =>
  match readOctets 1 0 bs with
  | none => none
  | some (v, rest) => (values[v]?).map fun a => (a, rest)

/-- A flag: clear 0, set 1 (R169). -/
def readFlag : Reader Bool := readEnum [false, true]

/-- An optional field governed by a bit of the presence mask (R169). -/
def readOpt {α : Type} (mask bit : Nat) (r : Reader α) : Reader (Option α) :=
  if mask.testBit bit then do
    let v ← r
    pure (some v)
  else pure none

/-- A three-valued field of PROFILE on two consecutive mask bits; the second without the first makes the note MALFORMED
(R169). -/
def readGiven (mask bit : Nat) (r : Reader Nat) : Reader (Given Nat) :=
  match mask.testBit bit, mask.testBit (bit + 1) with
  | false, false => pure .omitted
  | false, true => fun _ => none
  | true, true => pure .absent
  | true, false => do
    let v ← r
    pure (.value v)

/-- Reads a list of a given length. -/
def readList {α : Type} (r : Reader α) : Nat → Reader (List α)
  | 0 => pure []
  | n + 1 => do
    let a ← r
    let rest ← readList r n
    pure (a :: rest)

/-- A pin set: one octet with bits 0 to 2; any other bit names no value (R7, R169). -/
def readPins : Reader Pins := fun bs =>
  match readOctets 1 0 bs with
  | none => none
  | some (v, rest) =>
    if v < 8 then some ({ ceiling := v.testBit 0, target := v.testBit 1, speed := v.testBit 2 }, rest) else none

/-- An address version and the remote address it announces (R169). -/
def readIp : Reader IpAddr := fun bs =>
  match readOctets 1 0 bs with
  | some (0, rest) => (readOctets 4 0 rest).map fun p => (.v4 (BitVec.ofNat 32 p.1), p.2)
  | some (1, rest) => (readOctets 16 0 rest).map fun p => (.v6 (BitVec.ofNat 128 p.1), p.2)
  | _ => none

/-- A rung record (R169). -/
def readRung : Reader Rung := do
  let bitrate ← readNat 4
  let skip ← readFlag
  pure { bitrate := bitrate, skip := skip }

/-- A body without fields. -/
def readNothing : Reader Unit := pure ()

/-- The body of CLAIM. -/
def readClaim : Reader Addr := do
  let a ← readNat 6
  pure (BitVec.ofNat 48 a)

/-- The body of SETUP. -/
def readSetup (mask : Nat) : Reader SetupNote := do
  let linkFloor ← readOpt mask 0 (readNat 4)
  let margin ← readOpt mask 1 (readNat 1)
  let maxOutstanding ← readOpt mask 2 (readNat 1)
  let grantSpacing ← readOpt mask 3 (readNat 1)
  let high ← readOpt mask 4 (readNat 1)
  let mid ← readOpt mask 5 (readNat 1)
  let low ← readOpt mask 6 (readNat 1)
  let wA ← readOpt mask 7 (readNat 4)
  let wB ← readOpt mask 8 (readNat 4)
  let wS ← readOpt mask 9 (readNat 4)
  let wM ← readOpt mask 10 (readNat 4)
  let idleLimit ← readOpt mask 11 (readNat 2)
  pure { linkFloor, margin, maxOutstanding, grantSpacing, high, mid, low, wA, wB, wS, wM, idleLimit }

/-- The body of PROFILE. -/
def readProfile (mask : Nat) : Reader ProfileNote := do
  let session ← readNat 1
  let weight ← readOpt mask 0 (readNat 1)
  let cls ← readOpt mask 1 (readEnum [.prime, .companion, .background])
  let uplinkPriority ← readGiven mask 2 (readNat 1)
  let bufferTarget ← readOpt mask 4 (readNat 4)
  let lowGuard ← readOpt mask 5 (readNat 4)
  let panicLevel ← readOpt mask 6 (readNat 4)
  let upHold ← readOpt mask 7 (readNat 4)
  let freshnessLimit ← readGiven mask 8 (readNat 4)
  let stallThreshold ← readOpt mask 10 (readNat 1)
  let outstandingLimit ← readOpt mask 11 (readNat 1)
  let drawKind ← readOpt mask 12 (readEnum [.unwatched, .start, .live])
  let retryLimit ← readOpt mask 13 (readNat 1)
  let retryInterval ← readOpt mask 14 (readNat 4)
  let pins ← readOpt mask 15 readPins
  let initialSpeed ← readOpt mask 16 (readNat 1)
  let defaultCeiling ← readOpt mask 17 (readNat 1)
  pure { session, weight, cls, uplinkPriority, bufferTarget, lowGuard, panicLevel, upHold, freshnessLimit,
         stallThreshold, outstandingLimit, drawKind, retryLimit, retryInterval, pins, initialSpeed, defaultCeiling }

/-- The body of LADDER LOAD. -/
def readLadder (mask : Nat) : Reader LadderNote := do
  let session ← readNat 1
  let first ← readNat 1
  let publish ← readFlag
  let count ← readNat 1
  let records ← readList readRung count
  let rungCount ← readOpt mask 0 (readNat 1)
  let fallback ← readOpt mask 1 (readNat 1)
  pure { session, first, publish, records, rungCount, fallback }

/-- The map of a TETHER: an entry count and the entries. -/
def readMap : Reader (List Nat) := do
  let count ← readNat 1
  readList (readNat 1) count

/-- The body of TETHER. -/
def readTether (mask : Nat) : Reader TetherNote := do
  let leader ← readNat 1
  let follower ← readNat 1
  let map ← readOpt mask 0 readMap
  pure { leader, follower, map }

/-- The body of FLOW BIND and FLOW UNBIND. -/
def readFlow : Reader FlowNote := do
  let session ← readNat 1
  let transport ← readEnum [.tcp, .udp]
  let remote ← readIp
  let remotePort ← readNat 2
  let localPort ← readNat 2
  pure { session := session
         key := { transport := transport, remote := remote, remotePort := BitVec.ofNat 16 remotePort
                  localPort := BitVec.ofNat 16 localPort } }

/-- The body of ASK. -/
def readAsk (mask : Nat) : Reader AskNote := do
  let session ← readNat 1
  let segment ← readNat 4
  let duration ← readNat 4
  let flush ← readOpt mask 0 readFlag
  pure { session := session, segment := BitVec.ofNat 32 segment, duration := duration, flush := flush.getD false }

/-- The body of DONE. -/
def readDone : Reader DoneNote := do
  let session ← readNat 1
  let tag ← readNat 1
  let outcome ← readEnum [.complete, .abandoned]
  pure { session := session, tag := BitVec.ofNat 8 tag, outcome := outcome }

/-- The body of ABORT. -/
def readAbort : Reader AbortNote := do
  let session ← readNat 1
  let tag ← readNat 1
  pure { session := session, tag := BitVec.ofNat 8 tag }

/-- The body of PLAY. -/
def readPlay (mask : Nat) : Reader PlayNote := do
  let session ← readNat 1
  let state ← readEnum [.stopped, .playing, .stalled]
  let level ← readOpt mask 0 (readNat 4)
  let ceiling ← readOpt mask 1 (readNat 1)
  let target ← readOpt mask 2 (readNat 4)
  let speed ← readOpt mask 3 (readNat 1)
  pure { session, state, level, ceiling, target, speed }

/-- A body holds its layout exactly: every field whole and no octet left over (R2, step 1). -/
def readWhole {α : Type} (r : Reader α) (body : List Byte) : Option α :=
  match r body with
  | some (a, []) => some a
  | some (_, _ :: _) => none
  | none => none

/-- The command that a note of a control frame stands for, by its type (R169, R170); a type that names no note the part
executes stands for UNKNOWN_NOTE, and a note that could not be read stands for none. -/
def decodeNote (r : RawNote) : Option Instr :=
  match r.readable, r.noteType with
  | true, some t =>
    match t.toNat with
    | 1 => some (.claim (readWhole readClaim r.body))
    | 2 => some (.setup (readWhole (readSetup r.mask) r.body))
    | 3 => some (.deviceStatus (readWhole readNothing r.body))
    | 4 => some (.linkSnapshot (readWhole readNothing r.body))
    | 5 => some (.linkRestart (readWhole readNothing r.body))
    | 6 => some (.deviceReset (readWhole readNothing r.body))
    | 7 => some (.openSession (readWhole (readNat 1) r.body))
    | 8 => some (.sessionReset (readWhole (readNat 1) r.body))
    | 9 => some (.closeSession (readWhole (readNat 1) r.body))
    | 10 => some (.sessionStatus (readWhole (readNat 1) r.body))
    | 11 => some (.untether (readWhole (readNat 1) r.body))
    | 12 => some (.rearm (readWhole (readNat 1) r.body))
    | 13 => some (.profile (readWhole (readProfile r.mask) r.body))
    | 14 => some (.ladderLoad (readWhole (readLadder r.mask) r.body))
    | 15 => some (.tether (readWhole (readTether r.mask) r.body))
    | 16 => some (.flowBind (readWhole readFlow r.body))
    | 17 => some (.flowUnbind (readWhole readFlow r.body))
    | 18 => some (.askFetch (readWhole (readAsk r.mask) r.body))
    | 19 => some (.doneFetch (readWhole readDone r.body))
    | 20 => some (.abortFetch (readWhole readAbort r.body))
    | 21 => some (.play (readWhole (readPlay r.mask) r.body))
    | _ => some (.unknownNote t)
  | true, none => none
  | false, _ => none

/-- The number of octets of a note type's presence mask: 3 for PROFILE, 2 otherwise (R169). -/
def maskOctets (noteType : Nat) : Nat := if noteType = 13 then 3 else 2

/-- Cuts one note's envelope from the front of a control frame's notes; none where it runs past the end (R169, R170). -/
def cutNote (bs : List Byte) : Option (RawNote × List Byte) := do
  let (noteType, b1) ← readOctets 1 0 bs
  let (length, b2) ← readOctets 2 0 b1
  let (mask, b3) ← readOctets (maskOctets noteType) 0 b2
  if length ≤ b3.length then
    some ({ noteType := bs.head?, readable := true, mask := mask, body := b3.take length }, b3.drop length)
  else none

/-- The notes of a control frame with a note count: once one runs past the end, it and every later one is unreadable
(R170). -/
def cutNotes : Nat → List Byte → List RawNote
  | 0, _ => []
  | n + 1, bs =>
    match cutNote bs with
    | some (r, rest) => r :: cutNotes n rest
    | none =>
      { noteType := bs.head?, readable := false, mask := 0, body := [] } ::
        List.replicate n { noteType := none, readable := false, mask := 0, body := [] }

/-- The command a word spells by the table's bits: none, since no row of spec/opcode_table.json gives bits. -/
def decodeTableWord (_nbits _w : Nat) : Option Instr := none

end Sys2Proof
end

