-- ==== Sys2Proof/Machine/Ops.lean ====
section
/-! DEFINITION. Named operations shared by every block: device-time arithmetic, the session records, the slot table, the
ask queue and the pending sets. -/

namespace Sys2Proof.Machine

/-- The interval from a device time to another, modulo 2^32 (00_scope.md, "Device time"). -/
def elapsed (now t : Time) : Nat := (now - t).toNat

/-- The device time a number of milliseconds after another. -/
def later (t : Time) (ms : Nat) : Time := t + BitVec.ofNat 32 ms

/-- Device time has reached a deadline: the interval since it, modulo 2^32, is below 2^31 (log entry 7). -/
def reached (now d : Time) : Bool := decide (elapsed now d < 2147483648)

/-- A running timer has been reached; a timer that is not running has not. -/
def timerReached (now : Time) (timer : Option Time) : Bool := timer.any (reached now)

/-- The quotient rounded up when it is not exact (00_scope.md, "Numbers and arithmetic"). -/
def ceilDiv (a b : Nat) : Nat := (a + b - 1) / b

/-- The nearest value of a range (00_scope.md, "Refusal, clamping and dropping"). -/
def clampTo (lo hi x : Nat) : Nat := max lo (min hi x)

/-- The sixteen session indices in ascending order (R1). -/
def allSessions : List SessionIx := [0, 1, 2, 3, 4, 5, 6, 7, 8, 9, 10, 11, 12, 13, 14, 15]

/-- The eight slot numbers in ascending order (R107). -/
def allSlots : List SlotIx := [0, 1, 2, 3, 4, 5, 6, 7]

/-- The session index a note names, when it is at most 15 (R1). -/
def sessionIx? (n : Nat) : Option SessionIx := if h : n < 16 then some ⟨n, h⟩ else none

/-- One record of the session table. -/
def State.session (s : State) (i : SessionIx) : Session := s.sessions[i]

/-- The state with one session record changed. -/
def State.modSession (s : State) (i : SessionIx) (f : Session → Session) : State :=
  { s with sessions := s.sessions.set i (f s.sessions[i]) }

/-- One slot of the slot table; none is FREE (R108). -/
def State.slot (s : State) (k : SlotIx) : Option Slot := s.gate.slots[k]

/-- The state with one slot written. -/
def State.setSlot (s : State) (k : SlotIx) (x : Option Slot) : State :=
  { s with gate.slots := s.gate.slots.set k x }

/-- The slots a session occupies, listed by slot number; no rule orders them in SESSION STATUS (R107, R127; DESIGN CHOICE, log
entry 33). -/
def State.slotsOf (s : State) (i : SessionIx) : List (SlotIx × Slot) :=
  allSlots.filterMap fun k => (s.slot k).bind fun x => if x.session = i then some (k, x) else none

/-- The number of occupied slots of the slot table (R111). -/
def State.occupiedCount (s : State) : Nat := (allSlots.filter fun k => (s.slot k).isSome).length

/-- The occupied slot of a session that holds a tag (R121). -/
def State.slotByTag (s : State) (i : SessionIx) (tag : Byte) : Option (SlotIx × Slot) :=
  (s.slotsOf i).find? fun p => decide (p.2.tag = tag)

/-- The lowest-numbered FREE slot (R116). -/
def State.freeSlot (s : State) : Option SlotIx := allSlots.find? fun k => (s.slot k).isNone

/-- A session's queued ask; a session has at most one (R109). -/
def State.askOf (s : State) (i : SessionIx) : Option Ask := s.gate.askQueue.find? fun a => decide (a.session = i)

/-- The state without a session's queued ask. -/
def State.removeAsk (s : State) (i : SessionIx) : State :=
  { s with gate.askQueue := s.gate.askQueue.filter fun a => decide (a.session ≠ i) }

/-- A slot is RECEIVING (R108). -/
def Slot.isReceiving (x : Slot) : Bool :=
  match x.phase with
  | .granted => false
  | .receiving _ _ => true

/-- The session holds a RECEIVING slot (R130). -/
def State.holdsReceiving (s : State) (i : SessionIx) : Bool := (s.slotsOf i).any fun p => p.2.isReceiving

/-- The link meter is busy: at least one slot is RECEIVING and the line carrier is up (R46). -/
def State.meterBusy (s : State) : Bool :=
  s.path.line.carrier && allSlots.any fun k => (s.slot k).any Slot.isReceiving

/-- Releases every occupied slot of a session: no credit, no sample, no tag listed (R110, R16). -/
def State.releaseSlots (s : State) (i : SessionIx) : State :=
  (s.slotsOf i).foldl (fun t p => t.setSlot p.1 none) s

/-- The number of a cause, which is its bit in a field of pending causes (R169). -/
def Cause.number : Cause → Nat
  | .linkDown => 0
  | .linkUp => 1
  | .latched => 2
  | .overdraw => 3
  | .resync => 4
  | .blind => 5
  | .expired => 6
  | .deadlineMiss => 7
  | .flowExpired => 8
  | .retry => 9

/-- The set that holds one cause. -/
def Cause.bit (c : Cause) : CauseSet := BitVec.ofNat 16 (2 ^ c.number)

/-- A cause is pending in a set. -/
def CauseSet.has (p : CauseSet) (c : Cause) : Bool := p.getLsbD c.number

/-- Raises a cause on a session; raising a pending cause changes nothing (R178). -/
def State.raiseOn (s : State) (i : SessionIx) (c : Cause) : State :=
  s.modSession i fun x => { x with causes := x.causes ||| c.bit }

/-- Raises a cause on the device (R178). -/
def State.raiseDevice (s : State) (c : Cause) : State :=
  { s with control.devicePending := s.control.devicePending ||| c.bit }

/-- Every pending set, the device's first: what the comparison of R179 watches. -/
def State.pendingSets (s : State) : List CauseSet :=
  s.control.devicePending :: allSessions.map fun i => (s.session i).causes

/-- The flow entries that name a session (R163), in the order in which they were bound, though the table has none (DESIGN
CHOICE, log entry 36); their number is the session's flows bound. -/
def State.flowsOf (s : State) (i : SessionIx) : List FlowEntry := s.flows.filter fun e => decide (e.session = i)

/-- The flow entry that holds a key (R163). -/
def State.flowByKey (s : State) (k : FlowKey) : Option FlowEntry := s.flows.find? fun e => decide (e.key = k)

/-- Every block takes its power-on state (R1, R175); the reset input's level, the waiting commands and the model's place in
its free choices are not the part's to reset (log entry 1). -/
def State.powerOnState (s : State) : State :=
  { State.reset with resetAsserted := s.resetAsserted, pending := s.pending, choices := s.choices }

end Sys2Proof.Machine
end

