-- ==== Sys2Proof/Machine/Reports.lean ====
section
/-! DEFINITION. The report queue (R160): reply frames, part-originated notes, overflow, and the closing of a batch's reply
frame. -/

namespace Sys2Proof.Machine

/-- The most frames the report queue holds, and the most notes a report frame holds (R160). -/
def reportQueueFrames : Nat := 8

/-- See reportQueueFrames. -/
def reportFrameNotes : Nat := 16

/-- A note that the report queue has no room for is dropped and counted (R160). -/
def State.dropReportNote (s : State) : State :=
  { s with path.reportNotesDropped := s.path.reportNotesDropped + 1 }

/-- Begins a frame at the end of the report queue, or drops the note that needs it; says whether it was begun (R160). -/
def State.beginReport (s : State) (f : ReportFrame) : State × Bool :=
  if s.path.reportQueue.length < reportQueueFrames then
    ({ s with path.reportQueue := s.path.reportQueue ++ [f] }, true)
  else (s.dropReportNote, false)

/-- A frame takes a further part-originated note: it is a frame of such notes with room (R160). -/
def ReportFrame.takesOriginated (f : ReportFrame) : Bool := !f.isReply && decide (f.notes.length < reportFrameNotes)

/-- Queues a note of the part's own accord, and says whether it was queued: without a player address it is discarded
uncounted; it joins the newest frame when that takes it, and begins a frame of batch 0 otherwise (R160). -/
def State.originate (s : State) (n : OutNote) : State × Bool :=
  match s.control.claim with
  | none => (s, false)
  | some c =>
    match s.path.reportQueue.getLast? with
    | some f =>
      if f.takesOriginated then
        ({ s with path.reportQueue := s.path.reportQueue.dropLast ++ [{ f with notes := f.notes ++ [n] }] }, true)
      else s.beginReport { isReply := false, batch := 0, dest := c.player, isOpen := false, resetReply := false, notes := [n] }
    | none => s.beginReport { isReply := false, batch := 0, dest := c.player, isOpen := false, resetReply := false, notes := [n] }

/-- The reply joins the open reply frame. -/
def appendReply (n : OutNote) : List ReportFrame → List ReportFrame
  | [] => []
  | f :: fs => if f.isOpen then { f with notes := f.notes ++ [n] } :: fs else f :: appendReply n fs

/-- Where a batch's reply frame goes: the source of the control frame while the part is UNCLAIMED at the first reply, the
player address once CLAIMED (R170, R171). -/
def State.replyDest (s : State) (b : Batch) : Addr :=
  match s.control.claim with
  | none => b.source
  | some c => c.player

/-- Adds a REPLY of the batch in execution to its reply frame, which the first reply begins; every reply of a batch whose
frame could not be begun is dropped and counted (R160). -/
def State.addReply (s : State) (r : Reply) : State :=
  match s.control.batch with
  | none => s
  | some b =>
    match b.reply with
    | .begun => { s with path.reportQueue := appendReply (.reply r) s.path.reportQueue }
    | .dropped => s.dropReportNote
    | .notBegun =>
      let begun := s.beginReport { isReply := true, batch := b.number, dest := s.replyDest b, isOpen := true,
                                   resetReply := false, notes := [.reply r] }
      { begun.1 with control.batch := some { b with reply := if begun.2 then .begun else .dropped } }

/-- Closes the reply frame of the batch in execution and ends the batch (R160, R170). -/
def State.endBatch (s : State) : State :=
  { s with path.reportQueue := s.path.reportQueue.map (fun f => { f with isOpen := false })
           control.batch := none }

end Sys2Proof.Machine
end

