-- ==== Sys2Proof/Machine/Flags.lean ====
section
/-! DEFINITION. The pending causes as flags: top attention, the pending-sessions field, the clearing of causes, and the
comparison of R179. -/

namespace Sys2Proof.Machine

/-- The session causes in rank order (R178). -/
def sessionCauses : List Cause :=
  [.latched, .overdraw, .resync, .blind, .expired, .deadlineMiss, .flowExpired, .retry]

/-- The device causes in rank order (R178). -/
def deviceCauses : List Cause := [.linkDown, .linkUp]

/-- The top attention: the pending pair of highest rank and, among equal session causes, of lowest session index; a device
cause carries session 0 (R169, R178). -/
def State.topAttention (s : State) : Option (Cause × SessionIx) :=
  match deviceCauses.find? fun c => s.control.devicePending.has c with
  | some c => some (c, 0)
  | none =>
    sessionCauses.findSome? fun c =>
      (allSessions.find? fun i => (s.session i).causes.has c).map fun i => (c, i)

/-- Bit n is set when session n has a pending cause (R169). -/
def State.pendingSessions (s : State) : BitVec 16 :=
  allSessions.foldl (fun m i => if (s.session i).causes = 0 then m else m ||| BitVec.ofNat 16 (2 ^ i.val)) 0

/-- The pending causes an ATTENTION carries with its top cause: the device's or the session's (R179). -/
def State.attentionCauses (s : State) (top : Cause × SessionIx) : CauseSet :=
  match deviceCauses.contains top.1 with
  | true => s.control.devicePending
  | false => (s.session top.2).causes

/-- The comparison of the top attention with the last one sent (R179); a note that is dropped or discarded leaves the last
sent unchanged. -/
def State.compareAttention (s : State) : State :=
  match s.topAttention with
  | none => { s with control.lastTop := none }
  | some top =>
    if s.control.lastTop = some top then s
    else
      let sent := s.originate (.attention { cause := top.1, session := top.2, pending := s.attentionCauses top })
      if sent.2 then { sent.1 with control.lastTop := some top } else sent.1

/-- Ends an event: the comparison follows it when it changed a pending set (R178, R179; log entry 8). -/
def settle (before after : State) : State :=
  if before.pendingSets = after.pendingSets then after else after.compareAttention

/-- The causes of a session that SESSION STATUS leaves pending: LATCHED while the draw state is LATCHED, BLIND while the
freshness state is BLIND or RECOVERING (R176). -/
def keptCauses (x : Session) : CauseSet :=
  (match x.draw.phase with
   | .latched => Cause.latched.bit
   | .off | .watching | .retryWait => 0) |||
  (match x.buffer.freshness with
   | .fresh => 0
   | .blind | .recovering => Cause.blind.bit)

/-- Clears each pending cause of a session whose condition no longer holds (R176). -/
def State.clearCauses (s : State) (i : SessionIx) : State :=
  s.modSession i fun x => { x with causes := x.causes &&& keptCauses x }

/-- Removes LINK_DOWN and LINK_UP from the device's pending set (R173). -/
def State.clearDeviceCauses (s : State) : State :=
  { s with control.devicePending := s.control.devicePending &&& ~~~(Cause.linkDown.bit ||| Cause.linkUp.bit) }

end Sys2Proof.Machine
end

