-- ==== Sys2Proof/Machine/Buffer.lean ====
section
/-! DEFINITION. The buffer model and the freshness supervision (04_buffer_model_and_report_freshness.md). Each operation
acts on one session record at a device time. -/

namespace Sys2Proof.Machine

/-- The session's speed in eighths (R13); an UNPROFILED session has none and is STOPPED, so no rule reads the 8 kept here. -/
def Session.speed (x : Session) : Nat :=
  match x.eff with
  | some e => e.speed
  | none => 8

/-- The largest buffer level (R55, R58, R60). -/
def levelMax : Nat := 120000

/-- The modelled level B at a device time (R55). -/
def Session.level (x : Session) (now : Time) : Nat :=
  match x.buffer.playback with
  | .playing => x.buffer.anchor - elapsed now x.buffer.anchorTime * x.speed / 8
  | .stopped | .stalled => x.buffer.anchor

/-- The empty point that a re-anchor leaves running, if any (R57). -/
def Session.emptyPointOf (x : Session) : Option Time :=
  match x.buffer.playback with
  | .playing =>
    if x.buffer.anchor = 0 then none else some (later x.buffer.anchorTime (ceilDiv (x.buffer.anchor * 8) x.speed))
  | .stopped | .stalled => none

/-- Restarts or stops the empty point (R56, R57). -/
def Session.withEmptyPoint (x : Session) : Session := { x with buffer.emptyPoint := x.emptyPointOf }

/-- A re-anchor with a named value (R56). -/
def Session.anchorAt (x : Session) (now : Time) (v : Nat) : Session :=
  Session.withEmptyPoint { x with buffer.anchor := v, buffer.anchorTime := now }

/-- A plain re-anchor, at the level in force before the event (R56). -/
def Session.reAnchor (x : Session) (now : Time) : Session := x.anchorAt now (x.level now)

/-- A change of playback state: a plain re-anchor, the new state, a stall counted on entry into STALLED, and the freshness
timer stopped on entry into STOPPED (R62, R70). A state equal to the present one changes nothing. -/
def Session.setPlayback (x : Session) (now : Time) (p : Playback) : Session :=
  if x.buffer.playback = p then x
  else
    let y := Session.withEmptyPoint { x.reAnchor now with buffer.playback := p }
    match p with
    | .playing => y
    | .stalled => { y with stats.stalls := y.stats.stalls + 1 }
    | .stopped => { y with buffer.freshTimer := none }

/-- A change of the effective values whose speed may differ: the model re-anchors at the old speed first (R61). -/
def Session.setEffective (x : Session) (now : Time) (e : Effective) : Session :=
  if x.eff.map (fun o => o.speed) = some e.speed then { x with eff := some e }
  else Session.withEmptyPoint { x.reAnchor now with eff := some e }

/-- A completed segment's credit (R58). -/
def Session.credit (x : Session) (now : Time) (duration : Nat) : Session :=
  x.anchorAt now (min levelMax (x.level now + duration))

/-- The empty point is reached: the anchor becomes 0 at that time and the empty point stops (R57). -/
def Session.emptied (x : Session) (now : Time) : Session :=
  { x with buffer.anchor := 0, buffer.anchorTime := now, buffer.emptyPoint := none }

/-- The dry time: how long the player can play from the level it has now (R66). -/
def Session.dryTime (x : Session) (now : Time) : Nat := x.level now * 8 / x.speed

/-- The profile's freshness limit, when the session is supervised at all (R67). -/
def Session.freshnessLimit (x : Session) : Option Nat := x.profile.bind fun p => p.freshnessLimit

/-- The freshness state after a report taken while playing or stalled (R68). -/
def Freshness.reported : Freshness → Freshness
  | .fresh => .fresh
  | .blind => .recovering
  | .recovering => .fresh

/-- A report, taken in the playback state the note has left (R68, R70). -/
def Session.report (x : Session) (now : Time) : Session :=
  match x.freshnessLimit with
  | none => { x with buffer.freshness := .fresh, buffer.freshTimer := none }
  | some f =>
    match x.buffer.playback with
    | .stopped => x
    | .playing | .stalled =>
      { x with buffer.freshness := x.buffer.freshness.reported, buffer.freshTimer := some (later now f) }

/-- The freshness timer is reached: BLIND, from FRESH or from RECOVERING (R69). -/
def Session.blinded (x : Session) : Session :=
  { x with buffer.freshness := .blind, buffer.freshTimer := none }

/-- What a new freshness limit does to the supervision of a session whose limit was old (R11). -/
def Session.refreshLimit (x : Session) (now : Time) (old : Option Nat) : Session :=
  match x.freshnessLimit with
  | none => { x with buffer.freshness := .fresh, buffer.freshTimer := none }
  | some f =>
    match x.buffer.playback with
    | .stopped => x
    | .playing | .stalled =>
      match old with
      | none => { x with buffer.freshness := .fresh, buffer.freshTimer := some (later now f) }
      | some _ => { x with buffer.freshTimer := x.buffer.freshTimer.map fun _ => later now f }

end Sys2Proof.Machine
end

