-- ==== Sys2Proof/Machine/Ladders.lean ====
section
/-! DEFINITION. Ladders, allowed rungs and needs (02_rendition_ladders.md; 00_scope.md, "Rungs, ladders and need"). -/

namespace Sys2Proof.Machine

/-- The rung count (R21). -/
def Ladder.count (l : Ladder) : Nat := l.rungs.length

/-- The bitrate of a rung, 0 beyond the ladder. -/
def Ladder.bitrate (l : Ladder) (k : Nat) : Nat := (l.rungs[k]?).elim 0 Rung.bitrate

/-- The rung exists and is not skipped. -/
def Ladder.usable (l : Ladder) (k : Nat) : Bool := (l.rungs[k]?).any fun r => !r.skip

/-- The lowest non-skipped rung (R34); check 4 of R24 makes one exist in every published ladder. -/
def Ladder.lowest (l : Ladder) : Nat := ((List.range l.count).find? l.usable).getD 0

/-- A rung is allowed under a ceiling and a draw cap (R34). -/
def Ladder.allowed (l : Ladder) (ceiling : Nat) (cap : Option Nat) (k : Nat) : Bool :=
  l.usable k && (decide (k = l.lowest) || (decide (k ≤ ceiling) && cap.all fun c => decide (k ≤ c)))

/-- The allowed rungs in ascending order (R34). -/
def Ladder.allowedRungs (l : Ladder) (ceiling : Nat) (cap : Option Nat) : List Nat :=
  (List.range l.count).filter (l.allowed ceiling cap)

/-- The highest allowed rung that meets a test, and the lowest non-skipped rung when none does (00_scope.md). -/
def Ladder.highestAllowed (l : Ladder) (ceiling : Nat) (cap : Option Nat) (test : Nat → Bool) : Nat :=
  (((l.allowedRungs ceiling cap).filter test).getLast?).getD l.lowest

/-- The lowest allowed rung above an index, if there is one (R97). -/
def Ladder.lowestAbove (l : Ladder) (ceiling : Nat) (cap : Option Nat) (j : Nat) : Option Nat :=
  (l.allowedRungs ceiling cap).find? fun k => decide (j < k)

/-- The session's published ladder; a session without one has a ladder of no rungs, which no rule reads (R34). -/
def Session.ladder (x : Session) : Ladder := x.published.getD { rungs := [], fallback := 0 }

/-- The session's effective ceiling (R13). -/
def Session.ceiling (x : Session) : Nat :=
  match x.eff with
  | some e => e.ceiling
  | none => 11

/-- The highest allowed rung at or below an index, under the session's ladder, ceiling and draw cap. -/
def Session.allowedAtOrBelow (x : Session) (j : Nat) : Nat :=
  x.ladder.highestAllowed x.ceiling x.draw.cap fun k => decide (k ≤ j)

/-- The rung a verdict falls back to: the highest allowed rung at or below the fallback index (R35, R94). -/
def Session.fallbackRung (x : Session) : Nat := x.allowedAtOrBelow x.ladder.fallback

/-- The need of a bitrate at a speed (00_scope.md, "Rungs, ladders and need"). -/
def need (bitrate speed : Nat) : Nat := ceilDiv (bitrate * speed) 8

/-- The staged record at a position. -/
def Staging.rung? (g : Staging) (k : Nat) : Option Rung := (g.rungs[k]?).getD none

/-- The staged records at positions 0 to count - 1, when all of them are present (R24, check 2). -/
def Staging.records? (g : Staging) (count : Nat) : Option (List Rung) := (List.range count).mapM g.rung?

/-- The bitrates strictly ascend (R24, check 3). -/
def ascending : List Rung → Bool
  | [] => true
  | [_] => true
  | a :: b :: rest => decide (a.bitrate < b.bitrate) && ascending (b :: rest)

/-- The five checks of a publish: the ladder it publishes, or the number of the first check that fails (R24). -/
def Staging.validate (g : Staging) : Except Nat Ladder :=
  match g.count with
  | none => .error 1
  | some n =>
    match g.records? n with
    | none => .error 2
    | some rs =>
      if !ascending rs then .error 3
      else if rs.all Rung.skip then .error 4
      else
        match g.fallback with
        | none => .error 5
        | some f => if (rs[f]?).any (fun r => !r.skip) then .ok { rungs := rs, fallback := f } else .error 5

/-- Writes rung records into consecutive staging positions from a first index (R23). -/
def Staging.write (g : Staging) (first : Nat) : List Rung → Staging
  | [] => g
  | r :: rs => Staging.write { g with rungs := g.rungs.setIfInBounds first (some r) } (first + 1) rs

/-- The draw cap carried across a republish by bitrate (R27). -/
def remapCap (old new : Ladder) (ceiling cap : Nat) : Nat :=
  (((List.range new.count).filter fun k =>
      new.usable k && decide (k ≤ ceiling) && decide (new.bitrate k ≤ old.bitrate cap)).getLast?).getD new.lowest

/-- The current rung carried across a republish by bitrate (R28). -/
def remapRung (old new : Ladder) (ceiling : Nat) (cap : Option Nat) (rung : Nat) : Nat :=
  new.highestAllowed ceiling cap fun k => decide (new.bitrate k ≤ old.bitrate rung)

end Sys2Proof.Machine
end

