-- ==== Sys2Proof/Machine/Shares.lean ====
section
/-! DEFINITION. The share allocator (05_share_allocation.md): contenders, combined needs, the allocatable total, starved
division and weighted water-filling. -/

namespace Sys2Proof.Machine

/-- The followers of a leader, in join order; none for any other session (R145). -/
def Session.followers (x : Session) : List FollowerEntry :=
  match x.role with
  | .independent => []
  | .leader fs => fs
  | .follower _ => []

/-- The session follows a tether (R145). -/
def Session.follows (x : Session) : Bool :=
  match x.role with
  | .independent => false
  | .leader _ => false
  | .follower _ => true

/-- The session is STREAMING (R4). -/
def Session.isStreaming (x : Session) : Bool := decide (x.admin = .streaming)

/-- A contender: STREAMING with tether role NONE or LEADER (R74). -/
def Session.isContender (x : Session) : Bool := x.isStreaming && !x.follows

/-- The map entry for a leader rung (R145). -/
def FollowerEntry.mapEntry (e : FollowerEntry) (k : Nat) : Nat := (e.map[k]?).getD 0

/-- The mapped rung of a follower for a leader rung: the highest allowed rung of its own ladder at or below the map entry,
under its own ceiling and no cap (R76, R103). -/
def Session.mappedRung (x : Session) (e : FollowerEntry) (k : Nat) : Nat :=
  x.ladder.highestAllowed x.ceiling none fun j => decide (j ≤ e.mapEntry k)

/-- The need of a session's own rung at its own speed (R75). -/
def Session.rungNeed (x : Session) (k : Nat) : Nat := need (x.ladder.bitrate k) x.speed

/-- What one follower adds to the need of a leader rung: nothing unless it is STREAMING (R76). -/
def State.followerNeed (s : State) (k : Nat) (e : FollowerEntry) : Nat :=
  let f := s.session e.index
  if f.isStreaming then f.rungNeed (f.mappedRung e k) else 0

/-- The combined need of a rung (R76); for a session that leads no tether, the need of the rung (R75). -/
def State.combinedNeed (s : State) (i : SessionIx) (k : Nat) : Nat :=
  (s.session i).rungNeed k + ((s.session i).followers.map (s.followerNeed k)).sum

/-- The highest allowed rung of a session (R75). -/
def Session.highestRung (x : Session) : Nat := x.ladder.highestAllowed x.ceiling x.draw.cap fun _ => true

/-- The floor need (R75, R76). -/
def State.floorNeed (s : State) (i : SessionIx) : Nat := s.combinedNeed i (s.session i).ladder.lowest

/-- The cap need, never below the floor need (R75, R76). -/
def State.capNeed (s : State) (i : SessionIx) : Nat :=
  max (s.floorNeed i) (s.combinedNeed i (s.session i).highestRung)

/-- One contender's claim on the division: its weight and its two needs. -/
structure ShareClaim where
  session : SessionIx
  weight : Nat
  floorNeed : Nat
  capNeed : Nat
  deriving DecidableEq, Repr

/-- The weight of a contender (R6, R76). -/
def Session.weight (x : Session) : Nat := x.profile.elim 0 Profile.weight

/-- The claims of all contenders (R74 to R76). -/
def State.shareClaims (s : State) : List ShareClaim :=
  (allSessions.filter fun i => (s.session i).isContender).map fun i =>
    { session := i, weight := (s.session i).weight, floorNeed := s.floorNeed i, capNeed := s.capNeed i }

/-- The tentative share of a round (R79, step 3). -/
def ShareClaim.tentative (c : ShareClaim) (r w : Nat) : Nat := c.floorNeed + r * c.weight / w

/-- Weighted water-filling in rounds (R79): r is the remainder, the claims are the open set. -/
def waterFill : Nat → Nat → List ShareClaim → List (SessionIx × Nat)
  | 0, _, _ => []
  | rounds + 1, r, claims =>
    let w := (claims.map ShareClaim.weight).sum
    let capped := claims.filter fun c => decide (c.capNeed ≤ c.tentative r w)
    let others := claims.filter fun c => !decide (c.capNeed ≤ c.tentative r w)
    if capped.isEmpty then claims.map fun c => (c.session, c.tentative r w)
    else
      capped.map (fun c => (c.session, c.capNeed)) ++
        waterFill rounds (r - (capped.map fun c => c.capNeed - c.floorNeed).sum) others

/-- The allocatable total A (R77). -/
def State.allocatable (s : State) : Nat := s.meter.estimate * s.setup.margin / 16

/-- The sum of the floor needs of all claims (R78). -/
def floorSum (claims : List ShareClaim) : Nat := (claims.map ShareClaim.floorNeed).sum

/-- The shares of a division of a total among claims (R78, R79). -/
def divide (total : Nat) (claims : List ShareClaim) : List (SessionIx × Nat) :=
  if total ≤ floorSum claims then claims.map fun c => (c.session, c.floorNeed * total / floorSum claims)
  else waterFill (claims.length + 1) (total - floorSum claims) claims

/-- The share and needs one session holds after a division; absent when it is no contender (R73). -/
def sharesOf (claims : List ShareClaim) (shares : List (SessionIx × Nat)) (i : SessionIx) : Option Shares :=
  (claims.find? fun c => decide (c.session = i)).map fun c =>
    { share := ((shares.find? fun p => decide (p.1 = i)).map Prod.snd).getD 0
      floorNeed := c.floorNeed
      capNeed := c.capNeed }

/-- Gives every session the share and needs of a division. -/
def State.giveShares (s : State) (claims : List ShareClaim) (shares : List (SessionIx × Nat)) : State :=
  allSessions.foldl (fun t i => t.modSession i fun x => { x with shares := sharesOf claims shares i }) s

/-- One recomputation of every contender's share, the needs, A, the spare and the starved indication (R73, R78 to R83). -/
def State.recompute (s : State) : State :=
  let claims := s.shareClaims
  let shares := divide s.allocatable claims
  let t := s.giveShares claims shares
  { t with alloc := { total := s.allocatable
                      spare := s.allocatable - (shares.map Prod.snd).sum
                      starved := decide (s.allocatable ≤ floorSum claims) } }

end Sys2Proof.Machine
end

