-- ==== Sys2Proof/Machine/Selector.lean ====
section
/-! DEFINITION. The rung selector (06_rung_selection.md): the current rung and its moves, derivation, zones, the usable
rate, the rate candidate, the verdict and its application, resync, and the lowering that follows the limits. -/

namespace Sys2Proof.Machine

/-- Sets a session's current rung and counts the move by index; setting an absent one, or the same one, counts nothing
(R19, R26, R28). -/
def Session.moveTo (x : Session) (k : Nat) : Session :=
  match x.rung with
  | none => { x with rung := some k }
  | some r =>
    if r < k then { x with rung := some k, stats.rungMovesUp := x.stats.rungMovesUp + 1 }
    else if k < r then { x with rung := some k, stats.rungMovesDown := x.stats.rungMovesDown + 1 }
    else x

/-- The derivation of one STREAMING follower's current rung from its leader's, when the leader holds one (R103). -/
def State.derive (s : State) (leader : SessionIx) (e : FollowerEntry) : State :=
  match (s.session leader).rung with
  | none => s
  | some k =>
    if (s.session e.index).isStreaming then s.modSession e.index fun f => f.moveTo (f.mappedRung e k) else s

/-- The derivation of every STREAMING follower of a leader (R103). -/
def State.deriveAll (s : State) (leader : SessionIx) : State :=
  (s.session leader).followers.foldl (fun t e => t.derive leader e) s

/-- A change of a session's current rung: counted on it, and followed by the derivation of every follower. A rung equal to
the present one changes nothing (R99, R101, R103). -/
def State.moveRung (s : State) (i : SessionIx) (k : Nat) : State :=
  if (s.session i).rung = some k then s else (s.modSession i fun x => x.moveTo k).deriveAll i

/-- Restarts the up-hold; with H = 0 the deadline is absent (R88). -/
def Session.restartUpHold (x : Session) (now : Time) : Session :=
  match x.profile with
  | none => { x with upHold := none }
  | some p => { x with upHold := if p.upHold = 0 then none else some (later now p.upHold) }

/-- Lowers the current rung of a STREAMING session whose allowed set no longer holds it (R101). -/
def State.lowerToAllowed (s : State) (i : SessionIx) : State :=
  let x := s.session i
  match x.rung with
  | none => s
  | some r =>
    if x.isStreaming && !x.ladder.allowed x.ceiling x.draw.cap r then s.moveRung i (x.allowedAtOrBelow r) else s

/-- The zones of R92. -/
inductive Zone where
  | panic
  | low
  | steady
  | full
  deriving DecidableEq, Repr

/-- The session and every follower of its tether (R89). -/
def State.members (s : State) (i : SessionIx) : List SessionIx :=
  i :: (s.session i).followers.map FollowerEntry.index

/-- The session and its STREAMING followers (R92, R129). -/
def State.streamingMembers (s : State) (i : SessionIx) : List SessionIx :=
  i :: ((s.session i).followers.map FollowerEntry.index).filter fun f => (s.session f).isStreaming

/-- The zone level: the least modelled level of the session and its STREAMING followers (R92). -/
def State.zoneLevel (s : State) (i : SessionIx) : Nat :=
  (s.streamingMembers i).foldl (fun m f => min m ((s.session f).level s.time)) ((s.session i).level s.time)

/-- Some member is STALLED (R92). -/
def State.anyStalled (s : State) (i : SessionIx) : Bool :=
  (s.members i).any fun f => decide ((s.session f).buffer.playback = .stalled)

/-- Some member's freshness state is not FRESH (R94). -/
def State.anyNotFresh (s : State) (i : SessionIx) : Bool :=
  (s.members i).any fun f => decide ((s.session f).buffer.freshness ≠ .fresh)

/-- The zone of a judged session against its effective panic level, low guard and buffer target (R92). -/
def State.zone (s : State) (i : SessionIx) : Zone :=
  match (s.session i).eff with
  | none => .panic
  | some e =>
    if s.anyStalled i then .panic
    else if s.zoneLevel i < e.panicLevel then .panic
    else if s.zoneLevel i < e.lowGuard then .low
    else if s.zoneLevel i < e.target then .steady
    else .full

/-- The usable estimate E (R42). -/
def Session.usableEstimate (x : Session) : Option Nat := x.estimates.map fun e => min e.fast e.slow

/-- The share a session holds; a judged session is a contender, so it holds one (R91). -/
def Session.share (x : Session) : Nat := x.shares.elim 0 Shares.share

/-- The usable rate U (R91). -/
def Session.usableRate (x : Session) : Nat :=
  match x.usableEstimate with
  | none => x.share
  | some e => min e x.share

/-- The adjusted rate's factor in sixteenths (R93). -/
def Zone.factor : Zone → Nat
  | .panic => 16
  | .low => 12
  | .steady => 16
  | .full => 16

/-- The rate candidate k (R93). -/
def State.rateCandidate (s : State) (i : SessionIx) (z : Zone) : Nat :=
  let x := s.session i
  x.ladder.highestAllowed x.ceiling x.draw.cap fun k => decide (s.combinedNeed i k ≤ x.usableRate * z.factor / 16)

/-- An upward verdict: the lowest allowed rung above the current one when the up-hold is clear (R97, R98). -/
def Session.oneUp (x : Session) (r : Nat) : Nat :=
  match x.upHold with
  | some _ => r
  | none => (x.ladder.lowestAbove x.ceiling x.draw.cap r).getD r

/-- The verdict of the zone rules for a current rung r (R95 to R98). -/
def State.zoneVerdict (s : State) (i : SessionIx) (z : Zone) (r : Nat) : Nat :=
  let x := s.session i
  let k := s.rateCandidate i z
  match z with
  | .panic => x.ladder.lowest
  | .low => min k r
  | .steady => if k < r then k else if r < k then x.oneUp r else r
  | .full =>
    if r < k then x.oneUp r
    else if k < r && decide (x.usableRate < s.combinedNeed i r * 12 / 16) then k
    else r

/-- The verdict for a judged session: the freshness override, then the rule of its zone (R94 to R98). -/
def State.verdict (s : State) (i : SessionIx) : Nat :=
  let x := s.session i
  if s.anyNotFresh i then x.fallbackRung
  else s.zoneVerdict i (s.zone i) (x.rung.getD x.ladder.lowest)

/-- Applies a verdict: a change moves the rung, derives the followers and restarts the up-hold; an equal rung changes
nothing (R99). -/
def State.applyVerdict (s : State) (i : SessionIx) (v : Nat) : State :=
  if (s.session i).rung = some v then s
  else (s.moveRung i v).modSession i fun x => x.restartUpHold s.time

/-- The session judged for an asking session, and whether it is judged by R90 alone (R89, R90). -/
def State.judged (s : State) (asking : SessionIx) : SessionIx × Bool :=
  match (s.session asking).role with
  | .independent => (asking, false)
  | .leader _ => (asking, false)
  | .follower l => if (s.session l).isStreaming then (l, false) else (asking, true)

/-- Forms and applies the verdict that an asking session's grant or deadline asks for (R89, R90, R99). -/
def State.judge (s : State) (asking : SessionIx) : State :=
  let j := s.judged asking
  s.applyVerdict j.1 (if j.2 then (s.session j.1).fallbackRung else s.verdict j.1)

/-- Returns a session's rung to its fallback, derives every STREAMING follower whether or not the rung moved, and restarts
the up-hold (R100). -/
def State.toFallback (s : State) (i : SessionIx) : State :=
  ((s.modSession i fun x => x.moveTo x.fallbackRung).deriveAll i).modSession i fun x => x.restartUpHold s.time

/-- The holder of the miss run: the session itself, or its leader when it follows (R119). -/
def State.missHolder (s : State) (i : SessionIx) : SessionIx :=
  match (s.session i).role with
  | .independent => i
  | .leader _ => i
  | .follower l => l

/-- A resync of a holder, triggered by a deadline of a session: the estimates are discarded, the rung returns to the
fallback, the miss run becomes 0 and RESYNC is raised; for a holder that is not STREAMING the rung part acts on the
triggering session (R45, R100, R120). -/
def State.resync (s : State) (holder trigger : SessionIx) : State :=
  let forgotten := s.modSession holder fun x => { x with estimates := none }
  let returned := if (s.session holder).isStreaming then forgotten.toFallback holder else forgotten.toFallback trigger
  (returned.modSession holder fun x => { x with missRun := 0 }).raiseOn holder .resync

end Sys2Proof.Machine
end

