-- ==== Sys2Proof/Machine/Draw.lean ====
section
/-! DEFINITION. The draw monitor (08_draw_profiles_and_demotion.md): supervision, the START staircase, the LIVE rule, draw
windows, overdraw, retries, completions and what a re-profile does to the draw state. -/

namespace Sys2Proof.Machine

/-- The draw kind of a session's profile; NONE without a profile (R6). -/
def Session.drawKind (x : Session) : DrawKind := x.profile.elim .unwatched Profile.drawKind

/-- The contender a session belongs to: itself, or the leader it follows, when that is STREAMING (R74, R129). -/
def State.contender (s : State) (i : SessionIx) : Option SessionIx :=
  if (s.session (s.missHolder i)).isStreaming then some (s.missHolder i) else none

/-- Enters supervision: the entry time is set and the settled indication cleared (R130). -/
def Session.enterSupervision (x : Session) (now : Time) : Session :=
  { x with draw.entryTime := some now, draw.settled := false }

/-- Opens the START staircase (R134). -/
def Session.openStaircase (x : Session) (now : Time) : Session :=
  Session.enterSupervision { x with draw.openMark := false, draw.stageClock := 0, draw.overTime := 0 } now

/-- The draw monitor is told of a grant to a member: a START staircase marked to open opens (R116 step 7, R134). -/
def State.tellGrant (s : State) (i : SessionIx) : State :=
  match s.contender i with
  | none => s
  | some c =>
    let x := s.session c
    if x.drawKind = .start && x.draw.phase = .watching && x.draw.openMark then
      s.modSession c fun y => y.openStaircase s.time
    else s

/-- The draw monitor is told of a flush by a member: a START contender's staircase is marked to open (R110, R134). -/
def State.tellFlush (s : State) (i : SessionIx) : State :=
  match s.contender i with
  | none => s
  | some c =>
    if (s.session c).drawKind = .start then s.modSession c fun y => { y with draw.openMark := true } else s

/-- A completion advances the quiet run, or clears the penalty mark (R141). -/
def Session.quietCompletion (x : Session) : Session :=
  if x.draw.penaltyMark then { x with draw.penaltyMark := false }
  else if x.draw.phase = .watching && x.drawKind ≠ .unwatched then
    if 8 ≤ x.draw.quietRun + 1 then { x with draw.retriesUsed := 0, draw.quietRun := 0 }
    else { x with draw.quietRun := x.draw.quietRun + 1 }
  else x

/-- A completion of a slot without an over-low mark forgives a LIVE contender's over-time (R137). -/
def Session.liveCompletion (x : Session) (overLow : Bool) : Session :=
  if x.drawKind = .live && x.draw.phase = .watching && !overLow then { x with draw.overTime := 0 } else x

/-- The draw monitor is told of a completed fetch of a member (R121, R137, R141). -/
def State.tellCompletion (s : State) (i : SessionIx) (overLow : Bool) : State :=
  match s.contender i with
  | none => s
  | some c => s.modSession c fun y => (y.liveCompletion overLow).quietCompletion

/-- The session is supervised: a contender, START or LIVE, WATCHING (R129). -/
def Session.isSupervised (x : Session) : Bool :=
  x.isContender && decide (x.drawKind ≠ .unwatched) && decide (x.draw.phase = .watching)

/-- The device time at which the window ending now began; the one at the wrap is 96 ms long (R130). -/
def windowBegin (now : Time) : Time := if now = 0 then 4294967200#32 else now - 100#32

/-- The settled indication, or an entry no later than the window's beginning, permits the evaluation (R130). -/
def DrawState.permits (d : DrawState) (now : Time) : Bool :=
  d.settled || d.entryTime.any fun t => decide (elapsed (windowBegin now) t < 2147483648)

/-- The window now ending is evaluated for the session (R130, R131, R134). -/
def State.evaluates (s : State) (i : SessionIx) : Bool :=
  let x := s.session i
  x.isSupervised && x.draw.permits s.time && !(decide (x.drawKind = .start) && x.draw.openMark)

/-- The draw of a contender over the window (R131). -/
def State.drawOf (s : State) (i : SessionIx) : Nat :=
  ((s.streamingMembers i).map fun f => (s.session f).draw.windowBytes).sum * 8 / 100

/-- A limit: a threshold in sixteenths of the share (R131). -/
def drawLimit (share threshold : Nat) : Nat := share * threshold / 16

/-- A contender is in need: a member holds an occupied slot, and its zone level is below its low guard (R133). -/
def State.inNeed (s : State) (i : SessionIx) : Bool :=
  (s.session i).isContender && (s.streamingMembers i).any (fun f => !(s.slotsOf f).isEmpty) &&
  (s.session i).eff.any fun e => decide (s.zoneLevel i < e.lowGuard)

/-- The window is contended for a contender: some other contender is in need (R133). -/
def State.contended (s : State) (i : SessionIx) : Bool := allSessions.any fun j => decide (j ≠ i) && s.inNeed j

/-- The window is an on-window for a contender (R130). -/
def State.onWindow (s : State) (i : SessionIx) : Bool :=
  (s.streamingMembers i).any fun f => (s.session f).draw.receivingMark

/-- The demoted rung of an overdraw: the highest allowed rung below the current one, in an allowed set without a cap
(R138). -/
def Session.demotedRung (x : Session) : Nat :=
  x.ladder.highestAllowed x.ceiling none fun k => decide (k < x.rung.getD 0)

/-- What an overdraw does to the draw fields and the statistic of the contender's session (R138 steps 2, 5, 6 and 7,
R139). -/
def Session.overdrawn (x : Session) (now : Time) (demoted : Nat) : Session :=
  let marked := { x with draw.cap := some demoted, draw.overTime := 0, draw.quietRun := 0, draw.penaltyMark := true
                         stats.overdraws := x.stats.overdraws + 1 }
  match x.profile with
  | none => marked
  | some p =>
    if p.retryLimit ≤ x.draw.retriesUsed then { marked with draw.phase := .latched, draw.retryTimer := none }
    else { marked with draw.phase := .retryWait, draw.retryTimer := some (later now p.retryInterval) }

/-- The cause an overdraw raises (R139). -/
def Session.overdrawCause (x : Session) : Cause :=
  if (x.profile.elim 0 Profile.retryLimit) ≤ x.draw.retriesUsed then .latched else .overdraw

/-- An overdraw of a contender (R138, R139). The followers of a leader are derived when its rung is lowered; a current rung
that is the lowest already stays, and then no rung moves (R138 step 3; log entry 19). -/
def State.overdraw (s : State) (i : SessionIx) : State :=
  let x := s.session i
  let capped := s.modSession i fun y => y.overdrawn s.time x.demotedRung
  let lowered := if x.demotedRung < x.rung.getD 0 then capped.moveRung i x.demotedRung else capped
  let held := lowered.modSession i fun y => y.restartUpHold s.time
  (held.raiseOn i x.overdrawCause).recompute

/-- The judgement of an on-window for a START contender: whether it is an overdraw, and the over-time (R135). -/
def judgeStart (u : Setup) (x : Session) (d : Nat) (contended : Bool) : Bool × Nat :=
  if x.draw.stageClock < u.wA then (contended && decide (drawLimit x.share u.high < d), x.draw.overTime)
  else if x.draw.stageClock < u.wA + u.wB then (contended && decide (drawLimit x.share u.mid < d), x.draw.overTime)
  else if contended && decide (drawLimit x.share u.low < d) then
    (decide (u.wS < x.draw.overTime + 100), x.draw.overTime + 100)
  else (false, x.draw.overTime)

/-- The stage clock after an on-window without an overdraw (R135). -/
def stageAdvance (u : Setup) (clock : Nat) : Nat :=
  if clock < u.wA + u.wB then min (clock + 100) (u.wA + u.wB) else clock

/-- The evaluation of an on-window for a START contender (R135). -/
def State.evaluateStart (s : State) (i : SessionIx) (d : Nat) (contended : Bool) : State :=
  let x := s.session i
  let j := judgeStart s.setup x d contended
  let timed := s.modSession i fun y => { y with draw.overTime := j.2 }
  if j.1 then timed.overdraw i
  else timed.modSession i fun y => { y with draw.stageClock := stageAdvance s.setup y.draw.stageClock }

/-- Sets the over-low mark of every slot a member occupies (R136). -/
def State.markOverLow (s : State) (i : SessionIx) : State :=
  allSlots.foldl (fun t k =>
    match t.slot k with
    | none => t
    | some x => if (s.streamingMembers i).contains x.session then t.setSlot k (some { x with overLow := true }) else t) s

/-- The evaluation of an on-window for a LIVE contender: it changes nothing unless it is contended (R136). -/
def State.evaluateLive (s : State) (i : SessionIx) (d : Nat) (contended : Bool) : State :=
  let x := s.session i
  if contended && decide (drawLimit x.share s.setup.low < d) then
    let marked := s.markOverLow i
    if drawLimit x.share s.setup.high < d then marked.overdraw i
    else
      let timed := marked.modSession i fun y => { y with draw.overTime := y.draw.overTime + 100 }
      if s.setup.wM < x.draw.overTime + 100 then timed.overdraw i else timed
  else s

/-- The evaluation of the window now ending for one contender, an event of its own (R131; log entry 9). -/
def State.evaluateWindow (s : State) (i : SessionIx) : State :=
  if s.evaluates i then
    let d := s.drawOf i
    let c := s.contended i
    let kept := s.modSession i fun y =>
      { y with draw.settled := true, draw.lastWindow := some { windowEnd := s.time, draw := d, contended := c } }
    if s.onWindow i then
      match (s.session i).drawKind with
      | .unwatched => kept
      | .start => settle s (kept.evaluateStart i d c)
      | .live => settle s (kept.evaluateLive i d c)
    else kept
  else s

/-- The window quantities of a session as its next window begins: what has been credited at this device time already, and
the receiving mark set when the session holds a RECEIVING slot (R130). -/
def DrawState.nextWindow (d : DrawState) (receiving : Bool) : DrawState :=
  { d with windowBytes := d.nextBytes, receivingMark := d.nextMark || receiving, nextBytes := 0, nextMark := false }

/-- Clears the window quantities of every session (R130). -/
def State.clearWindows (s : State) : State :=
  allSessions.foldl (fun t i => t.modSession i fun x => { x with draw := x.draw.nextWindow (s.holdsReceiving i) }) s

/-- The order in which a window end takes its contenders: those named first, then the others in ascending order. -/
def windowOrder (named : List SessionIx) : List SessionIx :=
  named.dedup ++ allSessions.filter fun i => !named.contains i

/-- The retry timer is reached (R140 steps 1 to 4). -/
def Session.retried (x : Session) (now : Time) : Session :=
  let freed := { x with draw.retryTimer := none, draw.retriesUsed := x.draw.retriesUsed + 1, draw.cap := none
                        draw.phase := .watching }
  match x.drawKind with
  | .unwatched => freed
  | .start => freed.openStaircase now
  | .live => freed.enterSupervision now

/-- The counts, cap, timer and penalty mark that REARM and a change of draw kind clear (R10, R142). -/
def Session.drawCleared (x : Session) : Session :=
  { x with draw.cap := none, draw.retryTimer := none, draw.retriesUsed := 0, draw.overTime := 0, draw.quietRun := 0
           draw.penaltyMark := false }

/-- A REARM in WATCHING, RETRY_WAIT or LATCHED (R142). -/
def Session.rearmed (x : Session) (now : Time) : Session :=
  let cleared := { x.drawCleared with draw.phase := .watching }
  match x.drawKind with
  | .unwatched => cleared
  | .start => if x.isStreaming then cleared.openStaircase now else { cleared with draw.openMark := true }
  | .live => cleared.enterSupervision now

/-- The draw state that a draw kind starts with, entering supervision for START and LIVE (R8, R10, R128). -/
def Session.startDraw (x : Session) (now : Time) : Session :=
  match x.drawKind with
  | .unwatched => { x with draw.phase := .off, draw.openMark := false }
  | .start => Session.enterSupervision { x with draw.phase := .watching, draw.openMark := true } now
  | .live => Session.enterSupervision { x with draw.phase := .watching, draw.openMark := false } now

/-- The retry limit of a re-profile that keeps the draw kind has fallen to the retries used or below (R10, fourth case;
log entry 10). -/
def Session.meetRetryLimit (x : Session) (limit : Nat) : Session :=
  if limit ≤ x.draw.retriesUsed then
    match x.draw.phase with
    | .off => x
    | .watching | .latched => { x with draw.retriesUsed := limit }
    | .retryWait => { x with draw.retriesUsed := limit, draw.phase := .latched, draw.retryTimer := none }
  else x

/-- The draw state after a re-profile from an old draw kind; the record already holds the new profile (R10). -/
def Session.reprofileDraw (x : Session) (now : Time) (old : DrawKind) : Session :=
  match x.profile with
  | none => x
  | some p =>
    if p.drawKind = old then x.meetRetryLimit p.retryLimit
    else (Session.drawCleared { x with draw.stageClock := 0 }).startDraw now

end Sys2Proof.Machine
end

