-- ==== Sys2Proof/Machine/Estimator.lean ====
section
/-! DEFINITION. Segment samples, the session estimates, the link meter and the link estimate
(03_throughput_estimation.md). -/

namespace Sys2Proof.Machine

/-- The largest rate an estimate or a sample takes (R36, R39, R48, R49). -/
def rateMax : Nat := 1000000

/-- The sample of a closed slot, or none for a short fetch (R38, R39). -/
def Slot.sample (x : Slot) : Option Nat :=
  match x.phase with
  | .granted => none
  | .receiving first last =>
    if x.bytes < 24000 || decide (elapsed last first < 20) then none
    else some (min rateMax (x.bytes * 8 / elapsed last first))

/-- A sample seeds absent estimates and updates present ones (R40, R41). -/
def absorb (e : Option Estimates) (x : Nat) : Estimates :=
  match e with
  | none => { fast := x, slow := x }
  | some o => { fast := (o.fast * 8 + x * 8 + 8) / 16, slow := (o.slow * 14 + x * 2 + 8) / 16 }

/-- Takes the sample of a closed slot of a session for the estimator its role selects, or counts the fetch short
(R37, R38, R43). -/
def State.takeSample (s : State) (i : SessionIx) (x : Slot) : State :=
  match x.sample with
  | none => s.modSession i fun y => { y with stats.shortFetches := y.stats.shortFetches + 1 }
  | some v => s.modSession (s.missHolder i) fun y => { y with estimates := some (absorb y.estimates v) }

/-- A re-seed: the link estimate becomes the link floor, both accumulators are cleared, and shares are recomputed
(R50, R51). -/
def State.reSeed (s : State) : State :=
  State.recompute { s with meter.estimate := s.setup.linkFloor, meter.busyAcc := 0, meter.byteAcc := 0 }

/-- The value of a link sample (R48). -/
def linkSampleValue (byteAcc : Nat) : Nat := min rateMax (byteAcc * 8 / 500)

/-- The link estimate after a link sample (R49). -/
def linkUpdate (estimate sample : Nat) : Nat := clampTo 256 rateMax ((estimate * 12 + sample * 4 + 8) / 16)

/-- A downlink frame in the link meter: its length enters the interval totals always, and the byte accumulator while the
meter is busy, judged with the frame's own attribution applied (R47, R52). -/
def State.meterFrame (s : State) (n : Nat) : State :=
  { s with meter.byteAcc := if s.meterBusy then s.meter.byteAcc + n else s.meter.byteAcc
           meter.downlinkBytes := s.meter.downlinkBytes + BitVec.ofNat 64 n }

end Sys2Proof.Machine
end

