-- ==== Sys2Proof/Machine/Gate.lean ====
section
/-! DEFINITION. The fetch gate (07_fetch_gate.md): projected buffer, eligibility, the arbiter, grants, the examination of
the ask queue with its drain timers, byte attribution, deadlines, completion, abort and expiry. -/

namespace Sys2Proof.Machine

/-- The projected buffer: the level plus the durations of the session's occupied slots (R65). -/
def State.projected (s : State) (i : SessionIx) : Nat :=
  (s.session i).level s.time + ((s.slotsOf i).map fun p => p.2.duration).sum

/-- The session's effective buffer target; 0 while it has none (R13). -/
def Session.target (x : Session) : Nat :=
  match x.eff with
  | some e => e.target
  | none => 0

/-- The session's outstanding limit (R6). -/
def Session.outstandingLimit (x : Session) : Nat := x.profile.elim 0 Profile.outstandingLimit

/-- Conditions 1, 2 and 4 of eligibility: a slot to spare, room for another fetch, no spacing hold (R111). -/
def State.hasRoom (s : State) (i : SessionIx) : Bool :=
  decide (s.occupiedCount < s.setup.maxOutstanding) &&
  decide ((s.slotsOf i).length < (s.session i).outstandingLimit) && s.gate.spacingHold.isNone

/-- A queued ask of the session is eligible (R111). -/
def State.eligible (s : State) (i : SessionIx) : Bool :=
  s.hasRoom i && decide (s.projected i < (s.session i).target)

/-- The rank of a class (R115): a lower number ranks first. -/
def ArbClass.rank : ArbClass → Nat
  | .prime => 0
  | .companion => 1
  | .background => 2

/-- The class of a session (R6). -/
def Session.classRank (x : Session) : Nat := x.profile.elim 3 fun p => ArbClass.rank p.cls

/-- An ask's session is in PANIC: the zone of the session that a verdict for it would judge (R115). -/
def State.asksInPanic (s : State) (i : SessionIx) : Bool := decide (s.zone (s.judged i).1 = .panic)

/-- The first three comparisons of the arbiter: one session's ask ranks strictly before another's (R115). -/
def State.ranksBefore (s : State) (i j : SessionIx) : Bool :=
  if s.asksInPanic i != s.asksInPanic j then s.asksInPanic i
  else if (s.session i).classRank ≠ (s.session j).classRank then
    decide ((s.session i).classRank < (s.session j).classRank)
  else decide (s.projected i < s.projected j)

/-- The best of a list of asks in queue order: a later ask displaces an earlier one only when it ranks strictly before it
(R115). -/
def State.bestAsk (s : State) : List Ask → Option Ask
  | [] => none
  | a :: rest =>
    match s.bestAsk rest with
    | none => some a
    | some b => if s.ranksBefore b.session a.session then some b else some a

/-- The arbiter's choice among the eligible asks (R112, R115). -/
def State.chooseAsk (s : State) : Option Ask :=
  s.bestAsk (s.gate.askQueue.filter fun a => s.eligible a.session)

/-- The tag a grant takes: the next fetch tag, passing over the tags of the session's occupied slots (R116 step 4). -/
def takeTag : Nat → List Byte → Byte → Byte
  | 0, _, t => t
  | n + 1, used, t => if used.contains t then takeTag n used (t + 1) else t

/-- The expiry of a grant as an offset from its time (R117). -/
def expiryOffset (duration : Nat) : Nat := max (4 * duration) 20000

/-- The deadline of a grant as an offset from its time, absent when it would not fall before the expiry (R117). -/
def deadlineOffset (duration dry : Nat) : Option Nat :=
  if max duration dry < expiryOffset duration then some (max duration dry) else none

/-- Fills a FREE slot with a grant, takes its tag and sets the spacing hold (R114, R116 steps 4 to 6, R117). -/
def State.fillSlot (s : State) (a : Ask) (k : SlotIx) (tag : Byte) : State :=
  let x := s.session a.session
  let slot : Slot :=
    { session := a.session, tag := tag, segment := a.segment, duration := a.duration, rung := x.rung.getD 0
      bitrate := x.ladder.bitrate (x.rung.getD 0), generation := x.generation, grantTime := s.time
      deadline := (deadlineOffset a.duration (x.dryTime s.time)).map (later s.time)
      expiry := later s.time (expiryOffset a.duration), missed := false, bytes := 0, phase := .granted, overLow := false
      order := s.gate.grantsMade }
  let tagged := (s.setSlot k (some slot)).modSession a.session fun y =>
    { y with nextTag := tag + 1, expiredTags := y.expiredTags.filter fun t => decide (t ≠ tag) }
  { tagged with gate.grantsMade := s.gate.grantsMade + 1
                gate.spacingHold := if s.setup.grantSpacing = 0 then s.gate.spacingHold
                                    else some (later s.time s.setup.grantSpacing) }

/-- The GRANT note of a grant (R116). -/
def State.grantNote (s : State) (a : Ask) (k : SlotIx) (tag : Byte) : GrantNote :=
  let x := s.session a.session
  { session := a.session, tag := tag, segment := a.segment, slot := k, rung := x.rung.getD 0
    bitrate := x.ladder.bitrate (x.rung.getD 0), generation := x.generation
    expiryOffset := expiryOffset a.duration, deadlineOffset := deadlineOffset a.duration (x.dryTime s.time) }

/-- Grants an ask (R116). -/
def State.grant (s : State) (a : Ask) : State :=
  let judged := (s.removeAsk a.session).judge a.session
  match judged.freeSlot with
  | none => judged
  | some k =>
    let tag := takeTag 8 ((judged.slotsOf a.session).map fun p => p.2.tag) (judged.session a.session).nextTag
    let filled := judged.fillSlot a k tag
    ((filled.tellGrant a.session).originate (.grant (judged.grantNote a k tag))).1

/-- Grants while an ask is eligible: once when the grant spacing is above 0, repeatedly when it is 0 (R112). -/
def State.grantLoop : Nat → State → State
  | 0, s => s
  | n + 1, s =>
    match s.chooseAsk with
    | none => s
    | some a => if s.setup.grantSpacing = 0 then State.grantLoop n (s.grant a) else s.grant a

/-- The drain timer of a session at the end of an examination (R113). -/
def State.drainTimerOf (s : State) (i : SessionIx) : Option Time :=
  let x := s.session i
  if (s.askOf i).isSome && s.hasRoom i && decide (x.target ≤ s.projected i) && decide (x.buffer.playback = .playing) &&
     decide (s.projected i - x.target + 1 ≤ x.level s.time) then
    some (later s.time (ceilDiv ((s.projected i - x.target + 1) * 8) x.speed))
  else none

/-- Sets or stops every session's drain timer (R112, R113). -/
def State.setDrainTimers (s : State) : State :=
  allSessions.foldl (fun t i => t.modSession i fun x => { x with drainTimer := s.drainTimerOf i }) s

/-- One examination of the ask queue (R112). -/
def State.examine (s : State) : State := (State.grantLoop s.gate.askQueue.length s).setDrainTimers

/-- Slot p was granted before slot q: the earlier grant time, and the earlier grant at one time (R118; log entry 11). -/
def grantedBefore (now : Time) (p q : Slot) : Bool :=
  decide (elapsed now q.grantTime < elapsed now p.grantTime) ||
  (decide (elapsed now q.grantTime = elapsed now p.grantTime) && decide (p.order < q.order))

/-- The oldest of a list of slots. -/
def oldestOf (now : Time) : List (SlotIx × Slot) → Option (SlotIx × Slot)
  | [] => none
  | p :: rest =>
    match oldestOf now rest with
    | none => some p
    | some q => if grantedBefore now q.2 p.2 then some q else some p

/-- The session's oldest occupied slot (R118). -/
def State.oldestSlot (s : State) (i : SessionIx) : Option (SlotIx × Slot) := oldestOf s.time (s.slotsOf i)

/-- A slot's bytes stop at this value (R118). -/
def slotBytesMax : Nat := 4294967295

/-- A frame of n bytes enters a slot (R118). -/
def Slot.receive (x : Slot) (now : Time) (n : Nat) : Slot :=
  { x with
    bytes := min slotBytesMax (x.bytes + n)
    phase := match x.phase with
      | .granted => .receiving now now
      | .receiving first _ => .receiving first now }

/-- A frame of n bytes enters the window that holds its device time: the present one, or, while a window that ends now has
not been taken, the next one (R130). -/
def DrawState.credit (d : DrawState) (ending : Bool) (n : Nat) (entering : Bool) : DrawState :=
  if ending then { d with nextBytes := d.nextBytes + n, nextMark := d.nextMark || entering }
  else { d with windowBytes := d.windowBytes + n, receivingMark := d.receivingMark || entering }

/-- A classified downlink frame of n bytes is credited to the session's oldest occupied slot, with its window bytes and
receiving mark, or counted as unsolicited (R118, R130, R19). -/
def State.attributeBytes (s : State) (i : SessionIx) (n : Nat) : State :=
  match s.oldestSlot i with
  | some (k, x) =>
    (s.setSlot k (some (x.receive s.time n))).modSession i fun y =>
      { y with stats.bytesAttributed := y.stats.bytesAttributed + BitVec.ofNat 32 n
               draw := y.draw.credit s.windowDue n (!x.isReceiving) }
  | none =>
    s.modSession i fun y => { y with stats.unsolicitedBytes := y.stats.unsolicitedBytes + BitVec.ofNat 32 n }

/-- The stall threshold of a holder of a miss run; 0 acts as 1 (R6, R119). -/
def Session.stallThreshold (x : Session) : Nat := max 1 (x.profile.elim 0 Profile.stallThreshold)

/-- Queues the ADVISORY of a missed deadline (R119 step 5). -/
def State.advise (s : State) (i : SessionIx) (tag : Byte) : State :=
  let x := s.session i
  (s.originate (.advisory { session := i, tag := tag, rung := x.rung.getD 0, bitrate := x.ladder.bitrate (x.rung.getD 0)
                            generation := x.generation })).1

/-- The deadline of an occupied slot passes (R119, R120). -/
def State.missDeadline (s : State) (k : SlotIx) (x : Slot) : State :=
  let holder := s.missHolder x.session
  let marked := s.setSlot k (some { x with missed := true })
  let counted := (marked.modSession holder fun y => { y with missRun := y.missRun + 1 }).modSession x.session fun y =>
    { y with stats.deadlineMisses := y.stats.deadlineMisses + 1 }
  let told := ((counted.judge x.session).advise x.session x.tag).raiseOn x.session .deadlineMiss
  if (told.session holder).stallThreshold ≤ (told.session holder).missRun then told.resync holder x.session else told

/-- A completed fetch: credit, sample, statistic, miss run and draw bookkeeping; the slot is already free (R121 step 2). -/
def State.completeFetch (s : State) (x : Slot) : State :=
  let i := x.session
  let credited := s.modSession i fun y => y.credit s.time x.duration
  let sampled := credited.takeSample i x
  let counted := sampled.modSession i fun y => { y with stats.segmentsCompleted := y.stats.segmentsCompleted + 1 }
  let cleared :=
    if x.missed then counted else counted.modSession (s.missHolder i) fun y => { y with missRun := 0 }
  cleared.tellCompletion i x.overLow

/-- A tag joins the end of an expired-tag list, whose oldest tag goes when it already holds 4 (R122). -/
def listTag (tags : List Byte) (tag : Byte) : List Byte := (if 4 ≤ tags.length then tags.tail else tags) ++ [tag]

/-- The expiry of an occupied slot: the slot is freed, its tag listed, the expiry counted, EXPIRED raised, and the queue
examined (R122). -/
def State.expireSlot (s : State) (k : SlotIx) (x : Slot) : State :=
  let freed := (s.setSlot k none).modSession x.session fun y =>
    { y with expiredTags := listTag y.expiredTags x.tag, stats.expiries := y.stats.expiries + 1 }
  (freed.raiseOn x.session .expired).examine

end Sys2Proof.Machine
end

