-- ==== Sys2Proof/Machine/Operands.lean ====
section
/-! DEFINITION. The operands of notes: structure checks, clamping, defaults, the admin-state table of R3 and the fixed
sequence of R2. -/

namespace Sys2Proof.Machine

/-- What the part answers to a note: the reply code, and the detail and status payload that some codes carry (R177). -/
structure Answer where
  code : ReplyCode
  detail : Option Nat := none
  payload : Option (List Byte) := none
  deriving DecidableEq, Repr

/-- ACCEPTED, or ACCEPTED_CLAMPED when something was clamped (R2, R177). -/
def Answer.done (clamped : Bool) : Answer := { code := if clamped then .acceptedClamped else .accepted }

/-- The groups of notes that R3 judges alike. -/
inductive NoteGroup where
  | opening
  | anySession
  | publishing
  | profiled
  | streamingOnly
  deriving DecidableEq, Repr

/-- The table of R3 for the notes that name one session: none where the note is accepted, else the code that refuses it. -/
def admission : NoteGroup → Admin → Option ReplyCode
  | .opening, .vacant => none
  | .opening, .unprofiled => some .sessionBusy
  | .opening, .primed => some .sessionBusy
  | .opening, .streaming => some .sessionBusy
  | .anySession, .vacant => some .sessionVacant
  | .anySession, .unprofiled => none
  | .anySession, .primed => none
  | .anySession, .streaming => none
  | .publishing, .vacant => some .sessionVacant
  | .publishing, .unprofiled => some .notProfiled
  | .publishing, .primed => none
  | .publishing, .streaming => none
  | .profiled, .vacant => some .sessionVacant
  | .profiled, .unprofiled => some .notProfiled
  | .profiled, .primed => none
  | .profiled, .streaming => none
  | .streamingOnly, .vacant => some .sessionVacant
  | .streamingOnly, .unprofiled => some .notProfiled
  | .streamingOnly, .primed => some .noLadder
  | .streamingOnly, .streaming => none

/-- Steps 2 and 3 of R2: the session index, then its admin state. -/
def State.checkSession (s : State) (group : NoteGroup) (index : Nat) : Except ReplyCode SessionIx :=
  match sessionIx? index with
  | none => .error .badSession
  | some i =>
    match admission group (s.session i).admin with
    | some code => .error code
    | none => .ok i

/-- A given numeric field takes the nearest value of its range; an absent one takes its default (R6, R7). -/
def fieldOr (lo hi dflt : Nat) (o : Option Nat) : Nat := o.elim dflt (clampTo lo hi)

/-- A given field lies outside its range, so that clamping changes it (R7). -/
def outside (lo hi : Nat) (o : Option Nat) : Bool := o.any fun v => decide (clampTo lo hi v ≠ v)

/-- A rung record as staging takes it (R23). -/
def clampRung (r : Rung) : Rung := { r with bitrate := clampTo 100 65000 r.bitrate }

/-- A part address with its group bit set makes a CLAIM MALFORMED (R171); the group bit is bit 0 of the first octet (R162). -/
def groupBit (a : Addr) : Bool := a.getLsbD 40

/-- A hint for a pinned field is ignored (R14). -/
def unpinned (pinned : Bool) (hint : Option Nat) : Option Nat := if pinned then none else hint

end Sys2Proof.Machine

namespace Sys2Proof

open Sys2Proof.Machine

/-- The value a three-valued field gives, if it gives one. -/
def Given.value? : Given Nat → Option Nat
  | .omitted => none
  | .absent => none
  | .value a => some a

/-- The buffer target of a PROFILE (R6, R7). -/
def ProfileNote.targetValue (n : ProfileNote) : Nat := fieldOr 2000 120000 30000 n.bufferTarget

/-- The low guard of a PROFILE, clamped under its target (R6, R7). -/
def ProfileNote.guardValue (n : ProfileNote) : Nat := fieldOr 500 n.targetValue (min 10000 n.targetValue) n.lowGuard

/-- The panic level of a PROFILE, clamped under its low guard (R6, R7). -/
def ProfileNote.panicValue (n : ProfileNote) : Nat := fieldOr 0 n.guardValue (min 4000 n.guardValue) n.panicLevel

/-- The freshness limit of a PROFILE: 3,000 when omitted, absent when given as absent (R6). -/
def ProfileNote.freshnessValue (n : ProfileNote) : Option Nat :=
  match n.freshnessLimit with
  | .omitted => some 3000
  | .absent => none
  | .value v => some (clampTo 500 30000 v)

/-- The profile a PROFILE builds (R6, R7). -/
def ProfileNote.build (n : ProfileNote) : Profile :=
  { weight := fieldOr 1 15 4 n.weight
    cls := n.cls.getD .companion
    uplinkPriority := n.uplinkPriority.value?.map (clampTo 0 7)
    bufferTarget := n.targetValue
    lowGuard := n.guardValue
    panicLevel := n.panicValue
    upHold := fieldOr 0 60000 8000 n.upHold
    freshnessLimit := n.freshnessValue
    stallThreshold := fieldOr 0 7 2 n.stallThreshold
    outstandingLimit := fieldOr 1 2 1 n.outstandingLimit
    drawKind := n.drawKind.getD .start
    retryLimit := fieldOr 0 15 3 n.retryLimit
    retryInterval := fieldOr 1000 120000 20000 n.retryInterval
    pins := n.pins.getD { ceiling := false, target := false, speed := false }
    initialSpeed := fieldOr 4 16 8 n.initialSpeed
    defaultCeiling := fieldOr 0 11 11 n.defaultCeiling }

/-- Some field given in a PROFILE is changed by clamping (R7); a lowered default is not. -/
def ProfileNote.clamped (n : ProfileNote) : Bool :=
  outside 1 15 n.weight || outside 0 7 n.uplinkPriority.value? || outside 2000 120000 n.bufferTarget ||
  outside 500 n.targetValue n.lowGuard || outside 0 n.guardValue n.panicLevel || outside 0 60000 n.upHold ||
  outside 500 30000 n.freshnessLimit.value? || outside 0 7 n.stallThreshold || outside 1 2 n.outstandingLimit ||
  outside 0 15 n.retryLimit || outside 1000 120000 n.retryInterval || outside 4 16 n.initialSpeed ||
  outside 0 11 n.defaultCeiling

/-- High, Mid and Low before they are ordered (R132). -/
def SetupNote.midGiven (n : SetupNote) (u : Setup) : Nat := fieldOr 17 64 u.mid n.mid

/-- Low before it is ordered (R132). -/
def SetupNote.lowGiven (n : SetupNote) (u : Setup) : Nat := fieldOr 16 64 u.low n.low

/-- High after a SETUP (R132). -/
def SetupNote.highValue (n : SetupNote) (u : Setup) : Nat := fieldOr 17 64 u.high n.high

/-- Mid after a SETUP, ordered under High (R132). -/
def SetupNote.midValue (n : SetupNote) (u : Setup) : Nat := clampTo 17 (n.highValue u) (n.midGiven u)

/-- Low after a SETUP, ordered under Mid (R132). -/
def SetupNote.lowValue (n : SetupNote) (u : Setup) : Nat := clampTo 16 (n.midValue u) (n.lowGiven u)

/-- The device values after a SETUP (R132, R172). -/
def SetupNote.applyTo (n : SetupNote) (u : Setup) : Setup :=
  { linkFloor := fieldOr 256 1000000 u.linkFloor n.linkFloor
    margin := fieldOr 8 16 u.margin n.margin
    maxOutstanding := fieldOr 1 8 u.maxOutstanding n.maxOutstanding
    grantSpacing := fieldOr 0 255 u.grantSpacing n.grantSpacing
    high := n.highValue u
    mid := n.midValue u
    low := n.lowValue u
    wA := fieldOr 0 10000 u.wA n.wA
    wB := fieldOr 0 20000 u.wB n.wB
    wS := fieldOr 100 10000 u.wS n.wS
    wM := fieldOr 100 10000 u.wM n.wM
    idleLimit := fieldOr 10 600 u.idleLimit n.idleLimit }

/-- A SETUP field was clamped, or the ordering moved a threshold (R172). -/
def SetupNote.clamped (n : SetupNote) (u : Setup) : Bool :=
  outside 256 1000000 n.linkFloor || outside 8 16 n.margin || outside 1 8 n.maxOutstanding ||
  outside 0 255 n.grantSpacing || outside 17 64 n.high || outside 17 64 n.mid || outside 16 64 n.low ||
  outside 0 10000 n.wA || outside 0 20000 n.wB || outside 100 10000 n.wS || outside 100 10000 n.wM ||
  outside 10 600 n.idleLimit || decide (n.midValue u ≠ n.midGiven u) || decide (n.lowValue u ≠ n.lowGiven u)

/-- A LADDER LOAD is MALFORMED on an empty list of records, one of more than twelve, or one that does not fit (R22). -/
def LadderNote.malformed (n : LadderNote) : Bool :=
  n.records.isEmpty || decide (12 < n.records.length) || decide (12 < n.first + n.records.length)

/-- A bitrate, the rung count or the fallback index of a LADDER LOAD is clamped (R23). -/
def LadderNote.clamped (n : LadderNote) : Bool :=
  n.records.any (fun r => outside 100 65000 (some r.bitrate)) || outside 1 12 n.rungCount || outside 0 11 n.fallback

/-- A TETHER is MALFORMED when its map is present with no entries or with more than twelve (R146). -/
def TetherNote.malformed (n : TetherNote) : Bool := n.map.any fun m => m.isEmpty || decide (12 < m.length)

/-- The duration of an ASK, clamped (R109). -/
def AskNote.clampedDuration (n : AskNote) : Nat := clampTo 250 20000 n.duration

end Sys2Proof
end

