-- ==== Sys2Proof/Machine/Layout.lean ====
section
/-! DEFINITION. The layouts of R169 as octets: field encodings, the numbers of the enumerations, the notes the part sends,
the report frame, and the payloads of the three status notes (R169, R173, R174, R176). -/

namespace Sys2Proof.Machine

/-- A value in n octets, most significant first (R169). -/
def bigEndian (n v : Nat) : List Byte := (List.range n).map fun k => BitVec.ofNat 8 (v / 256 ^ (n - 1 - k))

/-- A field of one octet. -/
def octet1 (v : Nat) : List Byte := bigEndian 1 v

/-- A field of two octets. -/
def octet2 (v : Nat) : List Byte := bigEndian 2 v

/-- A field of four octets: times, offsets, counters, rates, media times and durations (R169). -/
def octet4 (v : Nat) : List Byte := bigEndian 4 v

/-- A count of 64 bits (R169). -/
def octet8 (v : Nat) : List Byte := bigEndian 8 v

/-- A device time. -/
def timeField (t : Time) : List Byte := octet4 t.toNat

/-- A 32-bit counter. -/
def countField (c : Count32) : List Byte := octet4 c.toNat

/-- A station address (R169). -/
def addrField (a : Addr) : List Byte := bigEndian 6 a.toNat

/-- A flag: clear 0, set 1 (R169). -/
def flagField (b : Bool) : List Byte := octet1 (if b then 1 else 0)

/-- A value of a status payload that may be absent: one octet 0, or one octet 1 and the value (R169). -/
def optField {α : Type} (f : α → List Byte) : Option α → List Byte
  | none => octet1 0
  | some a => octet1 1 ++ f a

/-- A list of a status payload: its number of entries in one octet, then the entries (R169). -/
def listField {α : Type} (f : α → List Byte) (l : List α) : List Byte := octet1 l.length ++ l.flatMap f

/-- The number of an admin state (R169). -/
def Admin.number : Admin → Nat
  | .vacant => 0
  | .unprofiled => 1
  | .primed => 2
  | .streaming => 3

/-- The number of a source (R169). -/
def Source.number : Source → Nat
  | .pinned => 0
  | .profile => 1
  | .hint => 2

/-- The number of a freshness state (R169). -/
def Freshness.number : Freshness → Nat
  | .fresh => 0
  | .blind => 1
  | .recovering => 2

/-- The number of a draw state (R169). -/
def DrawPhase.number : DrawPhase → Nat
  | .off => 0
  | .watching => 1
  | .retryWait => 2
  | .latched => 3

/-- The number of a class (R169). -/
def classNumber : ArbClass → Nat
  | .prime => 0
  | .companion => 1
  | .background => 2

/-- The number of a draw kind (R169). -/
def drawKindNumber : DrawKind → Nat
  | .unwatched => 0
  | .start => 1
  | .live => 2

/-- The number of a playback state (R169). -/
def playbackNumber : Playback → Nat
  | .stopped => 0
  | .playing => 1
  | .stalled => 2

/-- The number of a transport (R169). -/
def transportNumber : Transport → Nat
  | .tcp => 0
  | .udp => 1

/-- The number of a reply code (R169). -/
def ReplyCode.number : ReplyCode → Nat
  | .accepted => 0
  | .acceptedClamped => 1
  | .unknownNote => 2
  | .malformed => 3
  | .notClaimed => 4
  | .claimedElsewhere => 5
  | .badSession => 6
  | .sessionVacant => 7
  | .sessionBusy => 8
  | .notProfiled => 9
  | .noLadder => 10
  | .ladderInvalid => 11
  | .tethered => 12
  | .tetherInvalid => 13
  | .askPending => 14
  | .unknownTag => 15
  | .lateTag => 16
  | .tableFull => 17
  | .flowLimit => 18
  | .duplicateFlow => 19
  | .noSuchFlow => 20

/-- An address version and its address (R169). -/
def ipField : IpAddr → List Byte
  | .v4 a => octet1 0 ++ bigEndian 4 a.toNat
  | .v6 a => octet1 1 ++ bigEndian 16 a.toNat

/-- A set of pins: bit 0 ceiling, bit 1 target, bit 2 speed (R169). -/
def pinsField (p : Pins) : List Byte :=
  octet1 ((if p.ceiling then 1 else 0) + (if p.target then 2 else 0) + (if p.speed then 4 else 0))

/-- A profile, in the order of R6. -/
def profileField (p : Profile) : List Byte :=
  octet1 p.weight ++ octet1 (classNumber p.cls) ++ optField octet1 p.uplinkPriority ++ octet4 p.bufferTarget ++
  octet4 p.lowGuard ++ octet4 p.panicLevel ++ octet4 p.upHold ++ optField octet4 p.freshnessLimit ++
  octet1 p.stallThreshold ++ octet1 p.outstandingLimit ++ octet1 (drawKindNumber p.drawKind) ++ octet1 p.retryLimit ++
  octet4 p.retryInterval ++ pinsField p.pins ++ octet1 p.initialSpeed ++ octet1 p.defaultCeiling

/-- The effective values, each with its source, and the effective guards (R13, R15); each may be absent. -/
def effectiveField (e : Option Effective) : List Byte :=
  optField octet1 (e.map Effective.ceiling) ++ optField octet1 (e.map fun x => x.ceilingSource.number) ++
  optField octet4 (e.map Effective.target) ++ optField octet1 (e.map fun x => x.targetSource.number) ++
  optField octet1 (e.map Effective.speed) ++ optField octet1 (e.map fun x => x.speedSource.number) ++
  optField octet4 (e.map Effective.lowGuard) ++ optField octet4 (e.map Effective.panicLevel)

/-- A rung record. -/
def rungField (r : Rung) : List Byte := octet4 r.bitrate ++ flagField r.skip

/-- The ladders and the generation (R20, R21). -/
def ladderGroup (x : Session) : List Byte :=
  optField octet1 x.staging.count ++ listField (optField rungField) x.staging.rungs.toList ++
  optField octet1 x.staging.fallback ++
  optField (fun l : Ladder => octet1 l.count ++ listField rungField l.rungs ++ octet1 l.fallback) x.published ++
  octet1 x.generation.toNat

/-- The buffer model, level, projected buffer and freshness (R72). -/
def State.bufferGroup (s : State) (i : SessionIx) : List Byte :=
  let b := (s.session i).buffer
  octet1 b.freshness.number ++ optField timeField b.freshTimer ++ octet1 (playbackNumber b.playback) ++ octet4 b.anchor ++
  timeField b.anchorTime ++ octet4 ((s.session i).level s.time) ++ octet4 (s.projected i)

/-- The share, the needs and the starved indication (R86). -/
def State.shareGroup (s : State) (i : SessionIx) : List Byte :=
  let h := (s.session i).shares
  optField octet4 (h.map Shares.share) ++ optField octet4 (h.map Shares.floorNeed) ++
  optField octet4 (h.map Shares.capNeed) ++ flagField s.alloc.starved

/-- The current rung, the up-hold deadline and the rung moves (R106). -/
def rungGroup (x : Session) : List Byte :=
  optField octet1 x.rung ++ optField timeField x.upHold ++ countField x.stats.rungMovesUp ++
  countField x.stats.rungMovesDown

/-- A queued ask (R127). -/
def askField (a : Ask) : List Byte :=
  octet4 a.segment.toNat ++ octet4 a.duration ++ flagField a.flush ++ timeField a.arrival

/-- The arrival times of a slot, each absent until the first octet (R108). -/
def SlotPhase.first? : SlotPhase → Option Time
  | .granted => none
  | .receiving first _ => some first

/-- See SlotPhase.first?. -/
def SlotPhase.last? : SlotPhase → Option Time
  | .granted => none
  | .receiving _ last => some last

/-- An occupied slot (R127). A deadline that has passed is still reported with its time, though its timer has stopped: the
slot keeps its grant values (R119; DESIGN CHOICE, log entry 32). -/
def slotField (p : SlotIx × Slot) : List Byte :=
  octet1 p.1.val ++ octet1 p.2.tag.toNat ++ octet4 p.2.segment.toNat ++
  octet1 (if p.2.isReceiving then 2 else 1) ++ octet1 p.2.rung ++ octet1 p.2.generation.toNat ++
  optField timeField p.2.deadline ++ timeField p.2.expiry ++ flagField p.2.missed ++ octet4 p.2.bytes ++
  optField timeField p.2.phase.first? ++ optField timeField p.2.phase.last?

/-- The ask, slots, tags, miss run and drain timer (R127). -/
def State.gateGroup (s : State) (i : SessionIx) : List Byte :=
  let x := s.session i
  optField askField (s.askOf i) ++ listField slotField (s.slotsOf i) ++ octet1 x.nextTag.toNat ++
  listField (fun t : Byte => octet1 t.toNat) x.expiredTags ++ octet1 x.missRun ++ optField timeField x.drainTimer

/-- The draw state and the last evaluated window (R144). -/
def drawGroup (x : Session) : List Byte :=
  let d := x.draw
  octet1 d.phase.number ++ optField octet1 d.cap ++ octet1 d.retriesUsed ++ optField timeField d.retryTimer ++
  octet4 d.stageClock ++ octet4 d.overTime ++ octet1 d.quietRun ++ flagField d.openMark ++
  optField (fun w : WindowReport => timeField w.windowEnd) d.lastWindow ++
  optField (fun w : WindowReport => octet4 w.draw) d.lastWindow ++
  optField (fun w : WindowReport => flagField w.contended) d.lastWindow

/-- One follower with its map and default indication, beside its index: R156 does not say whether they stand there or behind
the whole list (DESIGN CHOICE, log entry 35). -/
def followerField (e : FollowerEntry) : List Byte :=
  octet1 e.index.val ++ listField octet1 e.map.toList ++ flagField e.isDefault

/-- The tether role, list, maps and leader (R156). -/
def roleGroup (x : Session) : List Byte :=
  match x.role with
  | .independent => octet1 0
  | .leader fs => octet1 1 ++ listField followerField fs
  | .follower l => octet1 2 ++ octet1 l.val

/-- A flow key. -/
def keyField (k : FlowKey) : List Byte :=
  octet1 (transportNumber k.transport) ++ ipField k.remote ++ octet2 k.remotePort.toNat ++ octet2 k.localPort.toNat

/-- A flow entry with all its fields (R163). -/
def flowField (e : FlowEntry) : List Byte :=
  keyField e.key ++ octet1 e.session.val ++ timeField e.bindTime ++ optField timeField e.lastHit ++ countField e.hits

/-- The statistics, in the order of R19. -/
def statsGroup (t : Stats) : List Byte :=
  countField t.segmentsCompleted ++ countField t.shortFetches ++ countField t.bytesAttributed ++
  countField t.unsolicitedBytes ++ countField t.deadlineMisses ++ countField t.expiries ++ countField t.stalls ++
  countField t.overdraws ++ countField t.rungMovesUp ++ countField t.rungMovesDown

/-- The payload of SESSION STATUS (R176). The session's slots stand by slot number and its flow entries in bind order, which no
rule fixes (DESIGN CHOICE, log entries 33 and 36). -/
def State.sessionPayload (s : State) (i : SessionIx) : List Byte :=
  let x := s.session i
  octet1 x.admin.number ++ optField profileField x.profile ++ effectiveField x.eff ++ ladderGroup x ++
  optField octet4 (x.estimates.map Estimates.fast) ++ optField octet4 (x.estimates.map Estimates.slow) ++
  s.bufferGroup i ++ s.shareGroup i ++ rungGroup x ++ s.gateGroup i ++ drawGroup x ++ roleGroup x ++
  listField flowField (s.flowsOf i) ++ octet1 (s.flowsOf i).length ++ statsGroup x.stats ++ octet2 x.causes.toNat

/-- The SETUP values, in the order of R172. -/
def setupField (u : Setup) : List Byte :=
  octet4 u.linkFloor ++ octet1 u.margin ++ octet1 u.maxOutstanding ++ octet1 u.grantSpacing ++ octet1 u.high ++
  octet1 u.mid ++ octet1 u.low ++ octet4 u.wA ++ octet4 u.wB ++ octet4 u.wS ++ octet4 u.wM ++ octet2 u.idleLimit

/-- The payload of DEVICE STATUS (R173). The line carrier stands before the station carrier: R173 says only "both carrier
states" (DESIGN CHOICE, log entry 37). -/
def State.devicePayload (s : State) : List Byte :=
  octet1 (if s.control.claim.isSome then 1 else 0) ++ optField addrField (s.control.claim.map Claim.player) ++
  flagField s.path.line.carrier ++ flagField s.path.station.carrier ++ octet4 s.meter.estimate ++
  octet4 s.alloc.total ++ octet4 s.alloc.spare ++ flagField s.alloc.starved ++ octet1 s.occupiedCount ++
  octet1 s.gate.askQueue.length ++ countField s.path.downlinkDrops ++ countField s.path.uplinkDrops ++
  countField s.path.reportNotesDropped ++ countField s.path.controlFramesDropped ++ octet8 s.path.otherBytes.toNat ++
  countField s.path.carrierDowns ++ setupField s.setup ++ octet2 s.control.devicePending.toNat

/-- The payload of LINK SNAPSHOT (R174). -/
def State.snapshotPayload (s : State) : List Byte :=
  timeField s.meter.intervalStart ++ timeField s.time ++ octet8 s.meter.downlinkBytes.toNat ++
  countField s.meter.busyTime ++ countField s.meter.linkSamples ++ octet4 s.meter.estimate

/-- A note's envelope: type, body length, presence mask of two octets, body (R169). -/
def envelope (noteType mask : Nat) (body : List Byte) : List Byte :=
  octet1 noteType ++ octet2 body.length ++ octet2 mask ++ body

/-- A note the part sends, as octets (R169). -/
def OutNote.encode : OutNote → List Byte
  | .reply r =>
    envelope 22 ((if r.detail.isSome then 1 else 0) + (if r.payload.isSome then 2 else 0))
      (octet1 r.position ++ octet1 r.noteType.toNat ++ octet1 r.code.number ++ r.detail.elim [] octet1 ++
       r.payload.getD [])
  | .grant g =>
    envelope 23 (if g.deadlineOffset.isSome then 1 else 0)
      (octet1 g.session.val ++ octet1 g.tag.toNat ++ octet4 g.segment.toNat ++ octet1 g.slot.val ++ octet1 g.rung ++
       octet4 g.bitrate ++ octet1 g.generation.toNat ++ octet4 g.expiryOffset ++ g.deadlineOffset.elim [] octet4)
  | .advisory a =>
    envelope 24 0
      (octet1 a.session.val ++ octet1 a.tag.toNat ++ octet1 a.rung ++ octet4 a.bitrate ++ octet1 a.generation.toNat)
  | .attention a => envelope 25 0 (octet1 a.cause.number ++ octet1 a.session.val ++ octet2 a.pending.toNat)

/-- The control group address (R167). -/
def controlGroup : Addr := 0x0F4B57002140#48

/-- The frame type of control and report frames (R167). -/
def controlType : Nat := 0x9A5C

/-- The source of report frames: the part address, or the control group address with its group bit cleared while UNCLAIMED
(R171). -/
def State.reportSource (s : State) : Addr :=
  match s.control.claim with
  | none => 0x0E4B57002140#48
  | some c => c.part

/-- A report frame as octets, its attention fields as they stand when its transmission begins (R161, R169). -/
def State.reportBytes (s : State) (f : ReportFrame) : List Byte :=
  let top := s.topAttention
  addrField f.dest ++ addrField s.reportSource ++ octet2 controlType ++ octet1 1 ++ octet2 f.batch.toNat ++
  octet1 f.notes.length ++ octet1 (if top.isSome then 1 else 0) ++
  (match top with
   | none => []
   | some t => octet1 t.1.number ++ octet1 t.2.val) ++
  octet2 s.pendingSessions.toNat ++ f.notes.flatMap OutNote.encode

end Sys2Proof.Machine
end

