-- ==== Sys2Proof/Machine/Frames.lean ====
section
/-! DEFINITION. The frame path (10_frame_path_and_flow_classification.md): reception, flow keys and counted length, the
flow table, the two forwarding directions, control frames, and transmission. -/

namespace Sys2Proof.Machine

/-- The value of octets, most significant first (R162). -/
def octetsValue (bs : List Byte) : Nat := bs.foldl (fun v b => v * 256 + b.toNat) 0

/-- The field of n octets at an offset (R162). -/
def fieldAt (bs : List Byte) (offset n : Nat) : Nat := octetsValue ((bs.drop offset).take n)

/-- The frame carries a VLAN tag (R162). -/
def isTagged (bs : List Byte) : Bool := decide (fieldAt bs 12 2 = 0x8100)

/-- The octets up to and including the type field, read past at most one VLAN tag (R162). -/
def headerLength (bs : List Byte) : Nat := if isTagged bs then 18 else 14

/-- The type field (R162). -/
def frameType (bs : List Byte) : Nat := fieldAt bs (headerLength bs - 2) 2

/-- The octets after the type field, up to the frame check sequence (R162). -/
def framePayload (bs : List Byte) : List Byte := bs.drop (headerLength bs)

/-- The destination address (R162). -/
def destAddr (bs : List Byte) : Addr := BitVec.ofNat 48 (fieldAt bs 0 6)

/-- The source address (R162). -/
def sourceAddr (bs : List Byte) : Addr := BitVec.ofNat 48 (fieldAt bs 6 6)

/-- The frame passes reception: a good frame check sequence, and at most 1,522 octets with it (R158). -/
def Frame.passes (f : Frame) : Bool := f.fcsOk && decide (f.bytes.length + 4 ≤ 1522)

/-- The IP header of a frame's payload: its version's name, when it is whole (R162). -/
inductive IpHeader where
  | v4 (length : Nat)
  | v6
  | none
  deriving DecidableEq, Repr

/-- The length of an IPv4 header (R162). -/
def ipv4HeaderLength (p : List Byte) : Nat := 4 * (fieldAt p 0 1 % 16)

/-- The IP header of a frame, if it is an IP frame (R162). -/
def ipHeader (bs : List Byte) : IpHeader :=
  let p := framePayload bs
  if frameType bs = 0x0800 then
    if 20 ≤ ipv4HeaderLength p && decide (ipv4HeaderLength p ≤ p.length) then .v4 (ipv4HeaderLength p) else .none
  else if frameType bs = 0x86DD then
    if 40 ≤ p.length then .v6 else .none
  else .none

/-- The length an IP header states, if there is one (R162). -/
def statedLength (bs : List Byte) : Option Nat :=
  match ipHeader bs with
  | .v4 _ => some (fieldAt (framePayload bs) 2 2)
  | .v6 => some (fieldAt (framePayload bs) 4 2 + 40)
  | .none => none

/-- The counted length of a frame: the stated length of an IP frame whose octets are all present, and the octets after the
type field of every other frame (R162). -/
def countedLength (bs : List Byte) : Nat :=
  match statedLength bs with
  | some n => if n ≤ (framePayload bs).length then n else (framePayload bs).length
  | none => (framePayload bs).length

/-- The transport a protocol or next-header value names (R162). -/
def transportOf (v : Nat) : Option Transport :=
  if v = 6 then some .tcp else if v = 17 then some .udp else none

/-- What the classifier reads of an IP frame: transport, source and destination address, source and destination port. -/
structure Endpoints where
  transport : Transport
  source : IpAddr
  dest : IpAddr
  sourcePort : BitVec 16
  destPort : BitVec 16
  deriving DecidableEq, Repr

/-- The endpoints of an IP frame whose transport is TCP or UDP and whose ports are present (R162). -/
def endpoints (bs : List Byte) : Option Endpoints :=
  let p := framePayload bs
  match ipHeader bs with
  | .none => none
  | .v4 h =>
    if fieldAt p 6 2 % 8192 = 0 && decide (h + 4 ≤ p.length) then
      (transportOf (fieldAt p 9 1)).map fun t =>
        { transport := t, source := .v4 (BitVec.ofNat 32 (fieldAt p 12 4)), dest := .v4 (BitVec.ofNat 32 (fieldAt p 16 4))
          sourcePort := BitVec.ofNat 16 (fieldAt p h 2), destPort := BitVec.ofNat 16 (fieldAt p (h + 2) 2) }
    else none
  | .v6 =>
    if 44 ≤ p.length then
      (transportOf (fieldAt p 6 1)).map fun t =>
        { transport := t, source := .v6 (BitVec.ofNat 128 (fieldAt p 8 16))
          dest := .v6 (BitVec.ofNat 128 (fieldAt p 24 16))
          sourcePort := BitVec.ofNat 16 (fieldAt p 40 2), destPort := BitVec.ofNat 16 (fieldAt p 42 2) }
    else none

/-- The flow key of a downlink frame: the remote end is its source (R162). -/
def downlinkKey (bs : List Byte) : Option FlowKey :=
  (endpoints bs).map fun e =>
    { transport := e.transport, remote := e.source, remotePort := e.sourcePort, localPort := e.destPort }

/-- The flow key of an uplink frame: the remote end is its destination (R162). -/
def uplinkKey (bs : List Byte) : Option FlowKey :=
  (endpoints bs).map fun e =>
    { transport := e.transport, remote := e.dest, remotePort := e.destPort, localPort := e.sourcePort }

/-- The entry a key hits, if any (R163). -/
def State.lookup (s : State) (key : Option FlowKey) : Option FlowEntry := key.bind s.flowByKey

/-- A hit refreshes the entry: its last-hit time and its hit count (R163). -/
def State.hit (s : State) (k : FlowKey) : State :=
  { s with flows := s.flows.map fun e =>
      if e.key = k then { e with lastHit := some s.time, hits := e.hits + 1 } else e }

/-- A downlink frame's classification: a hit is attributed to the entry's session, any other frame is counted in the other
bytes counter (R118, R163). -/
def State.classifyDownlink (s : State) (bs : List Byte) : State :=
  match s.lookup (downlinkKey bs) with
  | some e => (s.hit e.key).attributeBytes e.session (countedLength bs)
  | none => { s with path.otherBytes := s.path.otherBytes + BitVec.ofNat 64 (countedLength bs) }

/-- The frames a forwarding queue holds (R159). -/
def forwardingFrames : Nat := 32

/-- A frame joins the downlink queue, or is dropped and counted (R159). -/
def State.queueDownlink (s : State) (bs : List Byte) : State :=
  if s.path.downlinkQueue.length < forwardingFrames then
    { s with path.downlinkQueue := s.path.downlinkQueue ++ [bs] }
  else { s with path.downlinkDrops := s.path.downlinkDrops + 1 }

/-- A frame joins the uplink queue, or is dropped and counted (R159). -/
def State.queueUplink (s : State) (bs : List Byte) : State :=
  if s.path.uplinkQueue.length < forwardingFrames then
    { s with path.uplinkQueue := s.path.uplinkQueue ++ [bs] }
  else { s with path.uplinkDrops := s.path.uplinkDrops + 1 }

/-- A frame at the line port: not received while the carrier is down, discarded at reception on an error, else classified,
metered and queued (R157, R158, R159). -/
def State.receiveLine (s : State) (f : Frame) : State :=
  if !s.path.line.carrier then s
  else if !Frame.passes f then { s with path.downlinkDrops := s.path.downlinkDrops + 1 }
  else ((s.classifyDownlink f.bytes).meterFrame (countedLength f.bytes)).queueDownlink f.bytes

/-- The frame is addressed to the control note unit (R167). -/
def State.takesControl (s : State) (bs : List Byte) : Bool :=
  decide (frameType bs = controlType) &&
  (decide (destAddr bs = controlGroup) || s.control.claim.any fun c => decide (destAddr bs = c.part))

/-- The waiting frames the control input queue holds (R167). -/
def controlFrames : Nat := 4

/-- A control frame is consumed: it waits, or is dropped when 4 wait already; while the part is reset-pending it is
discarded uncounted (R167, R175). -/
def State.takeControl (s : State) (bs : List Byte) : State :=
  match s.control.resetPhase with
  | .awaitingReply | .due => s
  | .quiet =>
    if s.control.inputQueue.length < controlFrames then
      { s with control.inputQueue := s.control.inputQueue ++ [bs] }
    else { s with path.controlFramesDropped := s.path.controlFramesDropped + 1 }

/-- Writes the priority field of a VLAN tag, the three most significant bits of its control field (R162, R166). -/
def setPriority (bs : List Byte) (priority : Nat) : List Byte :=
  bs.set 14 (BitVec.ofNat 8 (priority * 32 + fieldAt bs 14 1 % 32))

/-- An uplink frame's classification: a hit refreshes the entry, and rewrites the priority of a tagged frame whose session's
profile names one (R166). -/
def State.classifyUplink (s : State) (bs : List Byte) : State × List Byte :=
  match s.lookup (uplinkKey bs) with
  | none => (s, bs)
  | some e =>
    match (s.session e.session).profile.bind Profile.uplinkPriority with
    | none => (s.hit e.key, bs)
    | some p => (s.hit e.key, if isTagged bs then setPriority bs p else bs)

/-- A frame at the station port (R157, R158, R166, R167). -/
def State.receiveStation (s : State) (f : Frame) : State :=
  if !s.path.station.carrier then s
  else if !Frame.passes f then { s with path.uplinkDrops := s.path.uplinkDrops + 1 }
  else if s.takesControl f.bytes then s.takeControl f.bytes
  else
    let c := s.classifyUplink f.bytes
    c.1.queueUplink c.2

/-- The station port can begin a transmission: carrier up, none in progress, and a closed report frame or, with no report
frame queued, a downlink frame to send (R161). -/
def State.stationReady (s : State) : Bool :=
  s.path.station.carrier && s.path.station.sending.isNone &&
  match s.path.reportQueue with
  | f :: _ => !f.isOpen
  | [] => !s.path.downlinkQueue.isEmpty

/-- The station port begins its next transmission (R159, R161). -/
def State.beginStation (s : State) : State :=
  if s.stationReady then
    match s.path.reportQueue with
    | f :: rest =>
      { s with path.reportQueue := rest
               path.station.sending := some { bytes := s.reportBytes f, resetReply := f.resetReply } }
    | [] =>
      match s.path.downlinkQueue with
      | bs :: rest =>
        { s with path.downlinkQueue := rest, path.station.sending := some { bytes := bs, resetReply := false } }
      | [] => s
  else s

/-- The line port can begin a transmission (R159). -/
def State.lineReady (s : State) : Bool :=
  s.path.line.carrier && s.path.line.sending.isNone && !s.path.uplinkQueue.isEmpty

/-- The line port begins its next transmission (R159). -/
def State.beginLine (s : State) : State :=
  if s.lineReady then
    match s.path.uplinkQueue with
    | bs :: rest =>
      { s with path.uplinkQueue := rest, path.line.sending := some { bytes := bs, resetReply := false } }
    | [] => s
  else s

/-- An entry's reference time: its last hit, or its bind (R165). -/
def FlowEntry.reference (e : FlowEntry) : Time := e.lastHit.getD e.bindTime

/-- An entry is idle for a limit in seconds (R165). -/
def FlowEntry.isIdle (e : FlowEntry) (now : Time) (limit : Nat) : Bool :=
  decide (limit * 1000 ≤ elapsed now e.reference)

/-- Removes the idle entries that meet a test, raising FLOW_EXPIRED on the session of each (R165). -/
def State.removeIdle (s : State) (test : FlowEntry → Bool) : State :=
  let idle := fun e : FlowEntry => test e && e.isIdle s.time s.setup.idleLimit
  let kept := { s with flows := s.flows.filter fun e => !idle e }
  (s.flows.filter idle).foldl (fun t e => t.raiseOn e.session .flowExpired) kept

end Sys2Proof.Machine
end

