-- ==== Sys2Proof/Machine/Tether.lean ====
section
/-! DEFINITION. Tethers (09_tethered_sessions.md): maps, the copied profile, forming and releasing; and the effective
values (01_sessions.md, 1.6) that a profile or its copy sets. -/

namespace Sys2Proof.Machine

/-- The source of an effective value that a profile sets (R13). -/
def profileSource (pinned : Bool) : Source := if pinned then .pinned else .profile

/-- The effective values with a target and its source, and the guards derived from a profile's G and P (R15). -/
def Effective.withTarget (e : Effective) (p : Profile) (target : Nat) (source : Source) : Effective :=
  { e with target := target, targetSource := source, lowGuard := min p.lowGuard target
           panicLevel := min p.panicLevel (min p.lowGuard target) }

/-- The effective values a profile sets (R8, R9, R13, R15). -/
def Profile.effective (p : Profile) : Effective :=
  { ceiling := p.defaultCeiling, ceilingSource := profileSource p.pins.ceiling
    target := p.bufferTarget, targetSource := profileSource p.pins.target
    speed := p.initialSpeed, speedSource := profileSource p.pins.speed
    lowGuard := min p.lowGuard p.bufferTarget
    panicLevel := min p.panicLevel (min p.lowGuard p.bufferTarget) }

/-- The target and guards that an examination watches (R112). -/
def Session.targets (x : Session) : Option (Nat × Nat × Nat) :=
  x.eff.map fun e => (e.target, e.lowGuard, e.panicLevel)

/-- The profile a follower holds: the leader's, but for the five fields that stay its own (R148). -/
def copiedProfile (leader own : Profile) : Profile :=
  { leader with uplinkPriority := own.uplinkPriority, outstandingLimit := own.outstandingLimit, pins := own.pins
                initialSpeed := own.initialSpeed, defaultCeiling := own.defaultCeiling }

/-- The copy of a leader's profile to a follower's record (R148); a changed freshness limit acts by R11. -/
def Session.takeCopy (x : Session) (now : Time) (leader : Profile) : Session :=
  match x.profile with
  | none => x
  | some own =>
    let p := copiedProfile leader own
    let y := { x with profile := some p
                      eff := x.eff.map fun e => e.withTarget p p.bufferTarget (profileSource p.pins.target) }
    if own.freshnessLimit = p.freshnessLimit then y else y.refreshLimit now own.freshnessLimit

/-- The copy of a leader's profile to one follower (R148). -/
def State.copyProfile (s : State) (leader follower : SessionIx) : State :=
  match (s.session leader).profile with
  | none => s
  | some p => s.modSession follower fun x => x.takeCopy s.time p

/-- The copy to every follower, in list order (R148). -/
def State.copyToFollowers (s : State) (leader : SessionIx) : State :=
  (s.session leader).followers.foldl (fun t e => t.copyProfile leader e.index) s

/-- The default map of a follower with a rung count, 12 when it holds no ladder: the lesser of k and count - 1 (R149). -/
def defaultMap (count : Nat) : Vector Nat 12 := Vector.ofFn fun k : Fin 12 => min k.val (count - 1)

/-- The rung count a default map is formed from (R149). -/
def Session.mapCount (x : Session) : Nat := x.published.elim 12 Ladder.count

/-- A given map: its entries clamped to 0..11, the last one repeated for every further leader rung (R149). -/
def givenMap (entries : List Nat) : Vector Nat 12 :=
  Vector.ofFn fun k : Fin 12 => min 11 ((entries[k.val]?).getD (entries.getLast?.getD 0))

/-- A given entry lies above 11 and is clamped (R149). -/
def mapClamped (map : Option (List Nat)) : Bool := map.any fun m => m.any fun e => decide (11 < e)

/-- The follower entry that a TETHER forms (R145, R149). -/
def Session.followerEntry (x : Session) (index : SessionIx) (map : Option (List Nat)) : FollowerEntry :=
  match map with
  | none => { index := index, map := defaultMap x.mapCount, isDefault := true }
  | some m => { index := index, map := givenMap m, isDefault := false }

/-- A leader's role with one more follower at the end of its list (R145). -/
def TetherRole.join (r : TetherRole) (e : FollowerEntry) : TetherRole :=
  match r with
  | .independent => .leader [e]
  | .leader fs => .leader (fs ++ [e])
  | .follower l => .follower l

/-- A leader's role without one follower; a leader whose list becomes empty becomes NONE (R145). -/
def TetherRole.leave (r : TetherRole) (f : SessionIx) : TetherRole :=
  match r with
  | .independent => .independent
  | .follower l => .follower l
  | .leader fs =>
    match fs.filter fun e => decide (e.index ≠ f) with
    | [] => .independent
    | e :: es => .leader (e :: es)

/-- A default map is formed again at the follower's publish, from the new rung count (R149). -/
def TetherRole.reform (r : TetherRole) (f : SessionIx) (count : Nat) : TetherRole :=
  match r with
  | .independent => .independent
  | .follower l => .follower l
  | .leader fs =>
    .leader (fs.map fun e => if e.index = f && e.isDefault then { e with map := defaultMap count } else e)

/-- The follower entry of a session in its leader's list. -/
def Session.entryFor (x : Session) (f : SessionIx) : Option FollowerEntry :=
  x.followers.find? fun e => decide (e.index = f)

/-- The draw fields that TETHER sets on the follower (R147 step 4). -/
def Session.idleDraw (x : Session) : Session :=
  let y := x.drawCleared
  { y with draw.phase := .off, draw.stageClock := 0, draw.openMark := false }

/-- The follower's record at an accepted TETHER: role, copy, estimates, miss run and draw state (R147 steps 1 to 4). -/
def Session.becomeFollower (x : Session) (now : Time) (leader : SessionIx) (p : Profile) : Session :=
  let y := Session.takeCopy { x with role := .follower leader } now p
  Session.idleDraw { y with estimates := none, missRun := 0 }

/-- The derivation of one follower through its entry in its leader's list (R29, R103, R147). -/
def State.deriveFollower (s : State) (leader follower : SessionIx) : State :=
  match (s.session leader).entryFor follower with
  | none => s
  | some e => s.derive leader e

/-- The effects of an accepted TETHER up to its recomputation (R147 steps 1 to 5). -/
def State.bind (s : State) (leader follower : SessionIx) (map : Option (List Nat)) : State :=
  let entry := (s.session follower).followerEntry follower map
  let led := s.modSession leader fun x => { x with role := x.role.join entry }
  let joined :=
    match (s.session leader).profile with
    | none => led
    | some p => led.modSession follower fun x => x.becomeFollower s.time leader p
  joined.deriveFollower leader follower

/-- The settings of a follower released while PRIMED or STREAMING: the copied draw kind starts its draw state (R152); a
released session that is STREAMING becomes a contender while WATCHING, which enters supervision (R130). -/
def Session.released (x : Session) (now : Time) : Session :=
  let y := { x with role := .independent }
  match x.drawKind with
  | .unwatched => { y with draw.phase := .off }
  | .start =>
    let marked := { y with draw.phase := .watching, draw.openMark := true }
    if x.isStreaming then marked.enterSupervision now else marked
  | .live => Session.enterSupervision { y with draw.phase := .watching } now

/-- A follower leaves its leader's list (R145). -/
def State.leaveLeader (s : State) (leader follower : SessionIx) : State :=
  s.modSession leader fun x => { x with role := x.role.leave follower }

/-- Releases a follower while it remains PRIMED or STREAMING (R152). -/
def State.release (s : State) (leader follower : SessionIx) : State :=
  (s.leaveLeader leader follower).modSession follower fun x => x.released s.time

/-- Releases every follower of a leader, in list order (R153). -/
def State.releaseAll (s : State) (leader : SessionIx) : State :=
  (s.session leader).followers.foldl (fun t e => t.release leader e.index) s

/-- A session that is reset or closed leaves its tether: as a leader it releases its followers, as a follower it leaves its
leader's list (R153, R154). -/
def State.dissolve (s : State) (i : SessionIx) : State :=
  match (s.session i).role with
  | .independent => s
  | .leader _ => s.releaseAll i
  | .follower l => s.leaveLeader l i

end Sys2Proof.Machine
end

