-- ==== Sys2Proof/Machine/Records.lean ====
section
/-! DEFINITION. What the session notes do to a session record and its neighbours: priming and re-profiling, staging and
publishing, hints and play reports, asks and flushes, session reset and close. -/

namespace Sys2Proof.Machine

/-- A PROFILE on an UNPROFILED session (R8, R54, R61), followed by the examination that its change of speed causes (R64). -/
def State.prime (s : State) (i : SessionIx) (p : Profile) : State :=
  State.examine <| s.modSession i fun x =>
    Session.startDraw { x.setEffective s.time p.effective with admin := .primed, profile := some p } s.time

/-- The record of a re-profiled session: effective values, draw state and freshness supervision (R9, R10, R11). -/
def Session.reprofiled (x : Session) (now : Time) (p : Profile) : Session :=
  let y := { x.setEffective now p.effective with profile := some p }
  (y.reprofileDraw now x.drawKind).refreshLimit now x.freshnessLimit

/-- The targets and guards of a leader's followers, in list order (R148). -/
def State.followerTargets (s : State) (i : SessionIx) : List (Option (Nat × Nat × Nat)) :=
  (s.session i).followers.map fun e => (s.session e.index).targets

/-- The values whose change by a PROFILE or a hint recomputes the shares (R9, R10, R14, R82). -/
def Session.shareInputs (x : Session) : Nat × Nat × Nat × Option Nat := (x.weight, x.speed, x.ceiling, x.draw.cap)

/-- A PROFILE on a PRIMED or STREAMING session that is not a follower (R9 to R12, R148). -/
def State.reprofile (s : State) (i : SessionIx) (p : Profile) : State :=
  let x := s.session i
  let y := x.reprofiled s.time p
  let stored := s.modSession i fun _ => y
  let raised := if x.draw.phase = .retryWait && y.draw.phase = .latched then stored.raiseOn i .latched else stored
  let copied := (raised.lowerToAllowed i).copyToFollowers i
  let shared := if x.isContender && decide (x.shareInputs ≠ y.shareInputs) then copied.recompute else copied
  if x.targets ≠ y.targets || x.speed ≠ y.speed || x.outstandingLimit ≠ y.outstandingLimit ||
     copied.followerTargets i ≠ s.followerTargets i then shared.examine
  else shared

/-- The staging ladder after the writes of a LADDER LOAD (R23). -/
def Staging.load (g : Staging) (n : LadderNote) : Staging :=
  let w := g.write n.first (n.records.map clampRung)
  { w with count := n.rungCount.elim g.count fun c => some (clampTo 1 12 c)
           fallback := n.fallback.elim g.fallback fun f => some (clampTo 0 11 f) }

/-- The current rung at the publish that takes a session to STREAMING; a leader's followers are derived from it, and a
WATCHING contender enters supervision (R26, R104, R130). -/
def State.firstRung (s : State) (i : SessionIx) : State :=
  let start := s.modSession i fun x => { x with rung := some x.ladder.lowest }
  match (s.session i).role with
  | .follower l =>
    match (s.session l).rung with
    | some _ => s.deriveFollower l i
    | none => start
  | .independent | .leader _ =>
    (start.deriveAll i).modSession i fun x =>
      if x.draw.phase = .watching then x.enterSupervision s.time else x

/-- The record of a session whose cap and current rung are carried across a republish by bitrate (R27, R28). -/
def Session.remapped (x : Session) (old : Ladder) : Session :=
  let cap := x.draw.cap.map (remapCap old x.ladder x.ceiling)
  let y := { x with draw.cap := cap }
  match x.rung with
  | none => y
  | some r => y.moveTo (remapRung old x.ladder x.ceiling cap r)

/-- The rungs at a republish: by bitrate for a session that is not a follower, with its followers derived again; through
the map for a follower whose leader holds a rung (R27 to R30). -/
def State.carryRungs (s : State) (i : SessionIx) (old : Ladder) : State :=
  match (s.session i).role with
  | .follower l =>
    match (s.session l).rung with
    | some _ => s.deriveFollower l i
    | none => s.modSession i fun x => x.remapped old
  | .independent | .leader _ => (s.modSession i fun x => x.remapped old).deriveAll i

/-- A default map of a publishing follower is formed again (R149). -/
def State.reformMap (s : State) (i : SessionIx) : State :=
  match (s.session i).role with
  | .independent => s
  | .leader _ => s
  | .follower l => s.modSession l fun x => { x with role := x.role.reform i (s.session i).mapCount }

/-- A successful publish (R25 to R31). A follower's own publish restarts its up-hold whatever its leader's state, as R31 says;
R150 says that it is restarted only while R90 judges the follower (DESIGN CHOICE, log entry 34). -/
def State.publish (s : State) (i : SessionIx) (l : Ladder) : State :=
  let x := s.session i
  let stored := (s.modSession i fun y =>
    { y with published := some l, generation := y.generation + 1, admin := .streaming }).reformMap i
  let carried := if x.isStreaming then stored.carryRungs i x.ladder else stored.firstRung i
  (carried.modSession i fun y => y.restartUpHold s.time).recompute

/-- The effective values after the hints of a PLAY (R14, R15). -/
def Effective.hinted (e : Effective) (p : Profile) (n : PlayNote) : Effective :=
  let c := match unpinned p.pins.ceiling n.ceiling with
    | none => e
    | some v => { e with ceiling := clampTo 0 11 v, ceilingSource := .hint }
  let t := match unpinned p.pins.target n.target with
    | none => c
    | some v =>
      if clampTo 2000 120000 v = c.target then { c with targetSource := .hint }
      else c.withTarget p (clampTo 2000 120000 v) .hint
  match unpinned p.pins.speed n.speed with
  | none => t
  | some v => { t with speed := clampTo 4 16 v, speedSource := .hint }

/-- The record after the four steps of a PLAY, but for the lowering of its rung (R63). -/
def Session.played (x : Session) (now : Time) (n : PlayNote) : Session :=
  let a := x.setPlayback now n.state
  let b := match n.level with
    | none => a
    | some v => a.anchorAt now (min levelMax v)
  let c := b.report now
  match c.profile, c.eff with
  | some p, some e => c.setEffective now (e.hinted p n)
  | none, _ => c
  | some _, none => c

/-- A PLAY is answered ACCEPTED_CLAMPED: its level or an adopted hint was clamped, or an adopted target hint that changes
the target leaves a guard below its profile value (R14, R60, R63; log entry 12). -/
def Session.playClamped (x : Session) (n : PlayNote) : Bool :=
  outside 0 levelMax n.level ||
  match x.profile, x.eff with
  | some p, some e =>
    let h := e.hinted p n
    outside 0 11 (unpinned p.pins.ceiling n.ceiling) || outside 2000 120000 (unpinned p.pins.target n.target) ||
    outside 4 16 (unpinned p.pins.speed n.speed) ||
    (decide (h.target ≠ e.target) && (decide (h.lowGuard < p.lowGuard) || decide (h.panicLevel < p.panicLevel)))
  | none, _ => false
  | some _, none => false

/-- An accepted PLAY (R63, R64, R82, R101). -/
def State.playReport (s : State) (i : SessionIx) (n : PlayNote) : State :=
  let x := s.session i
  let y := x.played s.time n
  let stored := s.modSession i fun _ => y
  let lowered := if y.ceiling = x.ceiling then stored else stored.lowerToAllowed i
  let shared := if y.ceiling = x.ceiling && y.speed = x.speed then lowered else lowered.recompute
  if x.buffer.playback ≠ n.state || n.level.isSome || y.speed ≠ x.speed || y.targets ≠ x.targets then shared.examine
  else shared

/-- An accepted ASK: the flush first, then the ask joins the queue, and the queue is examined (R59, R109, R110). -/
def State.queueAsk (s : State) (i : SessionIx) (n : AskNote) : State :=
  let flushed :=
    if n.flush then ((s.modSession i fun x => x.anchorAt s.time 0).releaseSlots i).tellFlush i else s
  State.examine
    { flushed with gate.askQueue := flushed.gate.askQueue ++
        [{ session := i, segment := n.segment, duration := n.clampedDuration, flush := n.flush, arrival := s.time }] }

/-- The record after SESSION RESET, or CLOSE (R16, R17): every field of R16 at its value, the others kept. -/
def Session.cleared (x : Session) (admin : Admin) (now : Time) : Session :=
  { Session.starting admin now with
    staging := x.staging
    generation := x.generation
    nextTag := x.nextTag
    draw := { windowBytes := x.draw.windowBytes, receivingMark := x.draw.receivingMark, nextBytes := x.draw.nextBytes
              nextMark := x.draw.nextMark } }

/-- The effects of SESSION RESET on a session, which CLOSE shares (R16, R17, R153, R154). The queue is examined when a slot was
freed, and not for the target, speed, anchor and playback state that the reset changes as well (R16, R112; DESIGN CHOICE, log
entry 38). -/
def State.resetSession (s : State) (i : SessionIx) (admin : Admin) : State :=
  let x := s.session i
  let emptied := ((s.dissolve i).releaseSlots i).removeAsk i
  let cleared := emptied.modSession i fun y => y.cleared admin s.time
  let shared := if x.isContender || decide (x.role ≠ .independent) then cleared.recompute else cleared
  if (s.slotsOf i).isEmpty then shared else shared.examine

/-- Removes every flow entry bound to a session, raising nothing (R17). -/
def State.removeFlows (s : State) (i : SessionIx) : State :=
  { s with flows := s.flows.filter fun e => decide (e.session ≠ i) }

end Sys2Proof.Machine
end

