-- ==== Sys2Proof/Machine/Notes.lean ====
section
/-! DEFINITION. The control note unit (11_control_notes_and_reports.md): the header check, the taking of notes in order,
the claim check, the status-note limit, replies and the end of a batch. -/

namespace Sys2Proof.Machine

/-- The batch in execution has no further note: its reply frame closes and it ends (R170). -/
def State.endIfDone (s : State) : State :=
  match s.control.batch with
  | none => s
  | some b => if b.rest.isEmpty then s.endBatch else s

/-- Moves the batch in execution past its next note. -/
def State.advanceBatch (s : State) : State :=
  { s with control.batch := s.control.batch.map fun b => { b with position := b.position + 1, rest := b.rest.tail } }

/-- The note type a reply to an unreadable note carries: its type octet when the frame held it, a free value otherwise
(log entry 4). -/
def State.unreadableReply (s : State) (position : Nat) (r : RawNote) : Reply :=
  { position := position, noteType := r.noteType.getD (Config.unreadableType s.choices), code := .malformed
    detail := none, payload := none }

/-- The unreadable notes at the head of the rest of a batch are answered MALFORMED, each in its position (R170). -/
def State.answerUnreadable : List RawNote → State → State
  | [], s => s
  | r :: rest, s =>
    if r.readable then s
    else
      match s.control.batch with
      | none => s
      | some b =>
        let told := (s.addReply (s.unreadableReply b.position r)).advanceBatch
        State.answerUnreadable rest
          { told with choices := if r.noteType.isSome then told.choices else told.choices + 1 }

/-- Answers the next note of the batch in execution, moves past it, answers unreadable notes behind it, and ends the batch
when none is left (R170, R177). -/
def State.answer (s : State) (noteType : Byte) (a : Answer) : State :=
  match s.control.batch with
  | none => s
  | some b =>
    let told := (s.addReply { position := b.position, noteType := noteType, code := a.code, detail := a.detail
                              payload := a.payload }).advanceBatch
    (State.answerUnreadable b.rest.tail told).endIfDone

/-- The claim check (R171): none where the note goes on to R2, else the code that refuses it. -/
def State.claimCheck (s : State) (b : Batch) (isClaim : Bool) : Option ReplyCode :=
  match s.control.claim with
  | none => if isClaim then none else some .notClaimed
  | some c => if b.source = c.player then none else some .claimedElsewhere

/-- The batch in execution, when a note of it can be taken: the reset input is not asserted and a batch is in execution
(R1, R170). -/
def State.takingBatch (s : State) : Option Batch := if s.resetAsserted then none else s.control.batch

/-- Takes the next note of the batch in execution (R170, R171, R179): the claim check, the note's own effects, its reply,
and the comparison of the top attention. Without a batch in execution there is no note to take (log entry 13). -/
def State.takeNote (s : State) (noteType : Byte) (isClaim : Bool) (b : Batch) (body : State × Answer) : State :=
  match s.claimCheck b isClaim with
  | some code => s.answer noteType { code := code }
  | none => settle s (body.1.answer noteType body.2)

/-- A note whose structure fails (R2, step 1). -/
def refuseWith (s : State) (code : ReplyCode) : State × Answer := (s, { code := code })

/-- A session note through steps 1 to 3 of R2, then its own checks and effects. -/
def State.sessionNote {α : Type} (s : State) (group : NoteGroup) (index : α → Nat) (note : Option α)
    (body : SessionIx → α → State × Answer) : State × Answer :=
  match note with
  | none => refuseWith s .malformed
  | some n =>
    match s.checkSession group (index n) with
    | .error code => refuseWith s code
    | .ok i => body i n

/-- The batch has already held the two status notes it may hold (R170). -/
def Batch.statusFull (b : Batch) : Bool := decide (2 ≤ b.statusNotes)

/-- Counts a status note of the batch in execution (R170; log entry 14). -/
def State.countStatus (s : State) : State :=
  { s with control.batch := s.control.batch.map fun b => { b with statusNotes := b.statusNotes + 1 } }

/-- Takes a status note (R170, R173, R174, R176): its reply carries the payload, and what it clears it clears after the
reply. -/
def State.takeStatus (s : State) (noteType : Byte) (b : Batch) (judged : Except ReplyCode (List Byte))
    (after : State → State) : State :=
  let counted := s.countStatus
  match s.claimCheck b false with
  | some code => counted.answer noteType { code := code }
  | none =>
    if b.statusFull then counted.answer noteType { code := .malformed }
    else
      match judged with
      | .error code => counted.answer noteType { code := code }
      | .ok payload => settle s (after (counted.answer noteType { code := .accepted, payload := some payload }))

/-- The header and the notes of a control frame; none when the frame is too short to hold its header (R169, R170). -/
structure ControlHeader where
  source : Addr
  version : Nat
  number : BitVec 16
  count : Nat
  notes : List Byte
  deriving DecidableEq, Repr

/-- Reads a control frame's header (R169). -/
def controlHeader (bs : List Byte) : Option ControlHeader :=
  let p := framePayload bs
  if p.length < 5 then none
  else some { source := sourceAddr bs, version := fieldAt p 0 1, number := BitVec.ofNat 16 (fieldAt p 1 2)
              count := fieldAt p 3 1, notes := p.drop 5 }

/-- The header is in order: version 1 and a note count of 1 to 16 (R170). -/
def ControlHeader.valid (h : ControlHeader) : Bool :=
  decide (h.version = 1) && decide (1 ≤ h.count) && decide (h.count ≤ 16)

/-- Begins the execution of a control frame: a bad header is answered with a single MALFORMED at position 0 with type 0;
otherwise its notes stand ready, and unreadable ones at their head are answered (R170). -/
def State.beginBatch (s : State) (h : ControlHeader) : State :=
  let opened := fun rest : List RawNote =>
    { s with control.batch := some { source := h.source, number := h.number, position := 0, rest := rest
                                     statusNotes := 0, reply := .notBegun } }
  if h.valid then
    (State.answerUnreadable (cutNotes h.count h.notes) (opened (cutNotes h.count h.notes))).endIfDone
  else
    ((opened []).addReply { position := 0, noteType := 0, code := .malformed, detail := none, payload := none }).endBatch

/-- The next control frame's execution begins, once no batch is in execution (R170). -/
def State.nextBatch (s : State) : State :=
  match s.control.batch, s.control.inputQueue with
  | none, bs :: rest =>
    let taken := { s with control.inputQueue := rest }
    match controlHeader bs with
    | none => taken
    | some h => taken.beginBatch h
  | none, [] => s
  | some _, _ => s

/-- Marks the open reply frame as that of a DEVICE RESET (R175). -/
def markResetReply (fs : List ReportFrame) : List ReportFrame :=
  fs.map fun f => if f.isOpen then { f with resetReply := true } else f

/-- An accepted DEVICE RESET: answered, its batch truncated, its reply frame closed and the part reset-pending; the reset
is due at once when no reply frame could be begun or the station carrier is down (R175). -/
def State.startReset (s : State) (b : Batch) : State :=
  let told := s.addReply { position := b.position, noteType := 6, code := .accepted, detail := none, payload := none }
  let dropped := told.control.batch.any fun c => decide (c.reply = .dropped)
  let marked := { told with path.reportQueue := markResetReply told.path.reportQueue }
  { marked.endBatch with
    control.inputQueue := []
    control.resetPhase := if dropped || !told.path.station.carrier then .due else .awaitingReply }

end Sys2Proof.Machine
end

