-- ==== Sys2Proof/Machine/Resets.lean ====
section
/-! DEFINITION. The meanings of POWER_ON, RESET_INPUT, RESET_INPUT_RELEASE and DEVICE_RESET_TAKEN. -/

namespace Sys2Proof.Machine

/-- Applies a change unless the asserted reset input holds the part in its power-on state (R1; log entry 15). -/
def State.unlessReset (s : State) (f : State → State) : State := if s.resetAsserted then s else f s

/-- The pending reset can be taken: its event has happened, or its reply frame is in transmission and ends now (R175). -/
def State.resetCanBeTaken (s : State) : Bool :=
  match s.control.resetPhase with
  | .quiet => false
  | .due => true
  | .awaitingReply => s.path.station.sending.any Transmission.resetReply

/-- POWER_ON (R1). -/
def execPowerOn (s : State) : Host.Outcome State Fault Refusal := .next s.powerOnState

/-- RESET_INPUT: assertion of the reset input, with the effect of power-on; a pending reset is taken at once (R1, R175). -/
def execResetInput (s : State) : Host.Outcome State Fault Refusal :=
  .next { s.powerOnState with resetAsserted := true }

/-- RESET_INPUT_RELEASE: the part leaves the power-on state in which the asserted input held it (R1). -/
def execResetInputRelease (s : State) : Host.Outcome State Fault Refusal := .next { s with resetAsserted := false }

/-- DEVICE_RESET_TAKEN: every block takes its power-on state (R175; log entry 16). -/
def execDeviceResetTaken (s : State) : Host.Outcome State Fault Refusal :=
  .next (s.unlessReset fun t => if t.resetCanBeTaken then t.powerOnState else t)

end Sys2Proof.Machine
end

