-- ==== Sys2Proof/Machine/DeviceNotes.lean ====
section
/-! DEFINITION. The meanings of BATCH, the device notes and UNKNOWN_NOTE (R170 to R175). Each note command stands for the
next note of the batch in execution (log entry 13). -/

namespace Sys2Proof.Machine

/-- The effects of an accepted SETUP, in the order of R172. -/
def State.applySetup (s : State) (n : SetupNote) : State :=
  let u := n.applyTo s.setup
  let set := { s with setup := u }
  let trimmed := if u.idleLimit = s.setup.idleLimit then set else set.removeIdle fun _ => true
  let shared := if u.margin = s.setup.margin then trimmed else trimmed.recompute
  if u.maxOutstanding = s.setup.maxOutstanding then shared else shared.examine

/-- An accepted CLAIM: the part address is the note's, and the first claim captures the source of the control frame as the
player address (R171). -/
def State.setClaim (s : State) (b : Batch) (part : Addr) : State :=
  { s with control.claim := some { part := part, player := s.control.claim.elim b.source Claim.player } }

/-- A CLAIM of the batch in execution (R171): answered, and compared by R179 when it is accepted. -/
def State.takeClaim (s : State) (b : Batch) (part : Option Addr) : State :=
  match s.claimCheck b true with
  | some code => s.answer 1 { code := code }
  | none =>
    match part.filter fun a => !groupBit a with
    | none => s.answer 1 { code := .malformed }
    | some a => ((s.setClaim b a).answer 1 (Answer.done false)).compareAttention

/-- A device note without fields: MALFORMED when its structure fails. -/
def bare (note : Option Unit) (s : State) (accepted : State) : State × Answer :=
  match note with
  | none => refuseWith s .malformed
  | some () => (accepted, Answer.done false)

/-- What a status note without fields answers: MALFORMED when its structure fails, or its payload. -/
def barePayload (note : Option Unit) (payload : List Byte) : Except ReplyCode (List Byte) :=
  match note with
  | none => .error .malformed
  | some () => .ok payload

/-- The next interval of the link meter opens (R174); the accumulators are left as they stand. -/
def State.openInterval (s : State) : State :=
  { s with meter.intervalStart := s.time, meter.downlinkBytes := 0, meter.busyTime := 0, meter.linkSamples := 0 }

/-- A DEVICE RESET of the batch in execution (R175). -/
def State.takeDeviceReset (s : State) (b : Batch) (note : Option Unit) : State :=
  match s.claimCheck b false with
  | some code => s.answer 6 { code := code }
  | none =>
    match note with
    | none => s.answer 6 { code := .malformed }
    | some () => s.startReset b

/-- BATCH (R170): the next control frame's execution begins, once no batch is in execution. -/
def execBatch (s : State) : Host.Outcome State Fault Refusal := .next (s.unlessReset fun t => t.nextBatch)

/-- CLAIM (R171). -/
def execClaim (part : Option Addr) (s : State) : Host.Outcome State Fault Refusal :=
  match s.takingBatch with
  | none => .next s
  | some b => .next (s.takeClaim b part)

/-- SETUP (R172). -/
def execSetup (note : Option SetupNote) (s : State) : Host.Outcome State Fault Refusal :=
  match s.takingBatch with
  | none => .next s
  | some b =>
    .next (s.takeNote 2 false b
      (match note with
       | none => refuseWith s .malformed
       | some n => (s.applySetup n, Answer.done (n.clamped s.setup))))

/-- DEVICE STATUS (R173). -/
def execDeviceStatus (note : Option Unit) (s : State) : Host.Outcome State Fault Refusal :=
  match s.takingBatch with
  | none => .next s
  | some b => .next (s.takeStatus 3 b (barePayload note s.devicePayload) State.clearDeviceCauses)

/-- LINK SNAPSHOT (R174). -/
def execLinkSnapshot (note : Option Unit) (s : State) : Host.Outcome State Fault Refusal :=
  match s.takingBatch with
  | none => .next s
  | some b => .next (s.takeStatus 4 b (barePayload note s.snapshotPayload) State.openInterval)

/-- LINK RESTART (R174, R51). -/
def execLinkRestart (note : Option Unit) (s : State) : Host.Outcome State Fault Refusal :=
  match s.takingBatch with
  | none => .next s
  | some b => .next (s.takeNote 5 false b (bare note s s.reSeed))

/-- DEVICE RESET (R175). -/
def execDeviceReset (note : Option Unit) (s : State) : Host.Outcome State Fault Refusal :=
  match s.takingBatch with
  | none => .next s
  | some b => .next (s.takeDeviceReset b note)

/-- UNKNOWN_NOTE (R170): the type is checked before the claim. -/
def execUnknownNote (noteType : Byte) (s : State) : Host.Outcome State Fault Refusal :=
  match s.takingBatch with
  | none => .next s
  | some _ => .next (s.answer noteType { code := .unknownNote })

end Sys2Proof.Machine
end

