-- ==== Sys2Proof/Machine/FetchNotes.lean ====
section
/-! DEFINITION. The meanings of ASK, DONE, ABORT and PLAY (R63, R109, R110, R121, R123, R124). -/

namespace Sys2Proof.Machine

/-- ASK's body (R109, R110). -/
def State.askBody (s : State) (note : Option AskNote) : State × Answer :=
  s.sessionNote .streamingOnly AskNote.session note fun i n =>
    if (s.askOf i).isSome then refuseWith s .askPending
    else (s.queueAsk i n, Answer.done (decide (n.clampedDuration ≠ n.duration)))

/-- A DONE or ABORT whose tag no occupied slot of the session holds: LATE_TAG, once, for a tag of the expired-tag list, and
UNKNOWN_TAG otherwise (R124). -/
def State.lateReport (s : State) (i : SessionIx) (tag : Byte) : State × Answer :=
  if (s.session i).expiredTags.contains tag then
    (s.modSession i fun x => { x with expiredTags := x.expiredTags.filter fun t => decide (t ≠ tag) },
     { code := .lateTag })
  else refuseWith s .unknownTag

/-- The end of a slot's fetch by a DONE (R121). -/
def State.finishSlot (s : State) (k : SlotIx) (x : Slot) (outcome : FetchOutcome) : State :=
  let freed := s.setSlot k none
  match outcome with
  | .complete => (freed.completeFetch x).examine
  | .abandoned => freed.examine

/-- The end of a slot's fetch by an ABORT (R123). -/
def State.abortSlot (s : State) (k : SlotIx) : State := (s.setSlot k none).examine

/-- DONE's body (R121, R124). -/
def State.doneBody (s : State) (note : Option DoneNote) : State × Answer :=
  s.sessionNote .streamingOnly DoneNote.session note fun i n =>
    match s.slotByTag i n.tag with
    | some (k, x) => (s.finishSlot k x n.outcome, Answer.done false)
    | none => s.lateReport i n.tag

/-- ABORT's body (R123, R124). -/
def State.abortBody (s : State) (note : Option AbortNote) : State × Answer :=
  s.sessionNote .streamingOnly AbortNote.session note fun i n =>
    match s.slotByTag i n.tag with
    | some (k, _) => (s.abortSlot k, Answer.done false)
    | none => s.lateReport i n.tag

/-- PLAY's body (R63, R14). -/
def State.playBody (s : State) (note : Option PlayNote) : State × Answer :=
  s.sessionNote .streamingOnly PlayNote.session note fun i n =>
    (s.playReport i n, Answer.done ((s.session i).playClamped n))

/-- ASK (R109, R110). -/
def execAskFetch (note : Option AskNote) (s : State) : Host.Outcome State Fault Refusal :=
  match s.takingBatch with
  | none => .next s
  | some b => .next (s.takeNote 18 false b (s.askBody note))

/-- DONE (R121, R124). -/
def execDoneFetch (note : Option DoneNote) (s : State) : Host.Outcome State Fault Refusal :=
  match s.takingBatch with
  | none => .next s
  | some b => .next (s.takeNote 19 false b (s.doneBody note))

/-- ABORT (R123, R124). -/
def execAbortFetch (note : Option AbortNote) (s : State) : Host.Outcome State Fault Refusal :=
  match s.takingBatch with
  | none => .next s
  | some b => .next (s.takeNote 20 false b (s.abortBody note))

/-- PLAY (R63, R14). -/
def execPlay (note : Option PlayNote) (s : State) : Host.Outcome State Fault Refusal :=
  match s.takingBatch with
  | none => .next s
  | some b => .next (s.takeNote 21 false b (s.playBody note))

end Sys2Proof.Machine
end

