-- ==== Sys2Proof/Machine/FlowNotes.lean ====
section
/-! DEFINITION. The meanings of FLOW BIND and FLOW UNBIND (R164). -/

namespace Sys2Proof.Machine

/-- The most entries a session holds, and the flow table holds (R163). -/
def sessionFlows : Nat := 4

/-- See sessionFlows. -/
def tableFlows : Nat := 48

/-- The check that refuses a FLOW BIND of a key to a session, if any (R164). -/
def State.bindFault (s : State) (i : SessionIx) (k : FlowKey) : Option ReplyCode :=
  if (s.flowByKey k).isSome then some .duplicateFlow
  else if sessionFlows ≤ (s.flowsOf i).length then some .flowLimit
  else if tableFlows ≤ s.flows.length then some .tableFull
  else none

/-- Adds an entry: bound now, never hit (R164). It joins the end of the list, so that SESSION STATUS lists a session's entries
in the order they were bound (R163 and R176 give none: DESIGN CHOICE, log entry 36). -/
def State.addFlow (s : State) (i : SessionIx) (k : FlowKey) : State :=
  { s with flows := s.flows ++ [{ key := k, session := i, bindTime := s.time, lastHit := none, hits := 0 }] }

/-- Removes the entry that holds a key (R164). -/
def State.dropFlow (s : State) (k : FlowKey) : State :=
  { s with flows := s.flows.filter fun e => decide (e.key ≠ k) }

/-- FLOW BIND's body (R164). -/
def State.flowBindBody (s : State) (note : Option FlowNote) : State × Answer :=
  s.sessionNote .anySession FlowNote.session note fun i n =>
    match s.bindFault i n.key with
    | some code => refuseWith s code
    | none => (s.addFlow i n.key, Answer.done false)

/-- FLOW UNBIND's body (R164). -/
def State.flowUnbindBody (s : State) (note : Option FlowNote) : State × Answer :=
  s.sessionNote .anySession FlowNote.session note fun i n =>
    if (s.flowByKey n.key).any fun e => decide (e.session = i) then (s.dropFlow n.key, Answer.done false)
    else refuseWith s .noSuchFlow

/-- FLOW BIND (R164). -/
def execFlowBind (note : Option FlowNote) (s : State) : Host.Outcome State Fault Refusal :=
  match s.takingBatch with
  | none => .next s
  | some b => .next (s.takeNote 16 false b (s.flowBindBody note))

/-- FLOW UNBIND (R164). -/
def execFlowUnbind (note : Option FlowNote) (s : State) : Host.Outcome State Fault Refusal :=
  match s.takingBatch with
  | none => .next s
  | some b => .next (s.takeNote 17 false b (s.flowUnbindBody note))

end Sys2Proof.Machine
end

