-- ==== Sys2Proof/Machine/Ports.lean ====
section
/-! DEFINITION. The meanings of the carrier events, the frame arrivals and the beginnings of transmission (R157 to R161,
R163, R166, R167). -/

namespace Sys2Proof.Machine

/-- The line carrier rises: LINK_UP is raised and the link estimate re-seeded (R157, R51). -/
def State.lineUp (s : State) : State :=
  State.reSeed (State.raiseDevice { s with path.line.carrier := true } .linkUp)

/-- The line carrier falls: the transmission in progress is lost, the fall is counted and LINK_DOWN raised; estimate and
accumulators are held (R157, R53). -/
def State.lineDown (s : State) : State :=
  State.raiseDevice
    { s with path.line := { carrier := false, sending := none }, path.carrierDowns := s.path.carrierDowns + 1 } .linkDown

/-- The station carrier falls: the transmission in progress is lost, and a DEVICE RESET that waits for its reply frame is
due (R157, R175). -/
def State.stationDown (s : State) : State :=
  { s with path.station := { carrier := false, sending := none }
           control.resetPhase := match s.control.resetPhase with
             | .quiet => .quiet
             | .awaitingReply => .due
             | .due => .due }

/-- LINE_CARRIER_UP (R157): a down-to-up transition; with the carrier up already there is none. -/
def execLineCarrierUp (s : State) : Host.Outcome State Fault Refusal :=
  .next (s.unlessReset fun t => if t.path.line.carrier then t else settle t t.lineUp)

/-- LINE_CARRIER_DOWN (R157): an up-to-down transition; with the carrier down already there is none. -/
def execLineCarrierDown (s : State) : Host.Outcome State Fault Refusal :=
  .next (s.unlessReset fun t => if t.path.line.carrier then settle t t.lineDown else t)

/-- STATION_CARRIER_EVENT (R157): a transition of the station carrier, which raises no cause. -/
def execStationCarrierEvent (up : Bool) (s : State) : Host.Outcome State Fault Refusal :=
  .next (s.unlessReset fun t =>
    if t.path.station.carrier = up then t
    else if up then { t with path.station.carrier := true }
    else t.stationDown)

/-- DOWNLINK_FRAME (R158). -/
def execDownlinkFrame (f : Frame) (s : State) : Host.Outcome State Fault Refusal :=
  .next (s.unlessReset fun t => t.receiveLine f)

/-- UPLINK_FRAME (R158). -/
def execUplinkFrame (f : Frame) (s : State) : Host.Outcome State Fault Refusal :=
  .next (s.unlessReset fun t => t.receiveStation f)

/-- The station port receives the frame, and it is one for the control note unit (R157, R158, R167). -/
def State.receivesControl (s : State) (f : Frame) : Bool :=
  s.path.station.carrier && Frame.passes f && s.takesControl f.bytes

/-- CONTROL_FRAME (R167): a frame that the control note unit takes; a frame that is none is the uplink frame it is
(log entry 17). -/
def execControlFrame (f : Frame) (s : State) : Host.Outcome State Fault Refusal :=
  .next (s.unlessReset fun t => if t.receivesControl f then t.takeControl f.bytes else t.receiveStation f)

/-- STATION_TRANSMIT (R161). -/
def execStationTransmit (s : State) : Host.Outcome State Fault Refusal :=
  .next (s.unlessReset fun t => t.beginStation)

/-- LINE_TRANSMIT (R159). -/
def execLineTransmit (s : State) : Host.Outcome State Fault Refusal :=
  .next (s.unlessReset fun t => t.beginLine)

end Sys2Proof.Machine
end

