-- ==== Sys2Proof/Machine/SessionNotes.lean ====
section
/-! DEFINITION. The meanings of the notes that open, configure, publish, report, reset and close one session (R5 to R12,
R16, R17, R22 to R31, R176). -/

namespace Sys2Proof.Machine

/-- OPEN's body: every field of the record takes its starting value (R5). -/
def State.openBody (s : State) (session : Option Nat) : State × Answer :=
  s.sessionNote .opening id session fun i _ =>
    (s.modSession i fun _ => Session.starting .unprofiled s.time, Answer.done false)

/-- SESSION RESET's body (R16). -/
def State.resetBody (s : State) (session : Option Nat) : State × Answer :=
  s.sessionNote .anySession id session fun i _ => (s.resetSession i .unprofiled, Answer.done false)

/-- CLOSE's body: the effects of SESSION RESET, the removal of the session's flows, and VACANT (R17). -/
def State.closeBody (s : State) (session : Option Nat) : State × Answer :=
  s.sessionNote .anySession id session fun i _ => ((s.removeFlows i).resetSession i .vacant, Answer.done false)

/-- PROFILE's body: a follower is refused TETHERED, an UNPROFILED session is primed, any other is re-profiled (R8, R9,
R12). -/
def State.profileBody (s : State) (note : Option ProfileNote) : State × Answer :=
  s.sessionNote .anySession ProfileNote.session note fun i n =>
    if (s.session i).follows then refuseWith s .tethered
    else if (s.session i).admin = .unprofiled then (s.prime i n.build, Answer.done n.clamped)
    else (s.reprofile i n.build, Answer.done n.clamped)

/-- The publish of a LADDER LOAD, on the staging ladder as its writes have left it: the first failing check is the detail
of LADDER_INVALID, and the writes stand (R24, R25). -/
def State.tryPublish (s : State) (i : SessionIx) (clamped : Bool) : State × Answer :=
  match (s.session i).staging.validate with
  | .error check => (s, { code := .ladderInvalid, detail := some check })
  | .ok l => (s.publish i l, Answer.done clamped)

/-- LADDER LOAD's body (R22 to R25). -/
def State.ladderBody (s : State) (note : Option LadderNote) : State × Answer :=
  s.sessionNote (if note.any LadderNote.publish then .publishing else .anySession) LadderNote.session
    (note.filter fun n => !n.malformed) fun i n =>
      let staged := s.modSession i fun x => { x with staging := x.staging.load n }
      if n.publish then staged.tryPublish i n.clamped else (staged, Answer.done n.clamped)

/-- OPEN (R5). -/
def execOpenSession (session : Option Nat) (s : State) : Host.Outcome State Fault Refusal :=
  match s.takingBatch with
  | none => .next s
  | some b => .next (s.takeNote 7 false b (s.openBody session))

/-- SESSION RESET (R16). -/
def execSessionReset (session : Option Nat) (s : State) : Host.Outcome State Fault Refusal :=
  match s.takingBatch with
  | none => .next s
  | some b => .next (s.takeNote 8 false b (s.resetBody session))

/-- CLOSE (R17). -/
def execCloseSession (session : Option Nat) (s : State) : Host.Outcome State Fault Refusal :=
  match s.takingBatch with
  | none => .next s
  | some b => .next (s.takeNote 9 false b (s.closeBody session))

/-- What a SESSION STATUS answers: a refusal of R2 and R3, or the session's record (R176). -/
def State.judgeStatus (s : State) (session : Option Nat) : Except ReplyCode (List Byte) :=
  match session with
  | none => .error .malformed
  | some n => (s.checkSession .anySession n).map s.sessionPayload

/-- What a SESSION STATUS clears after its reply (R176). -/
def State.clearNamed (s : State) (session : Option Nat) : State :=
  match session.bind sessionIx? with
  | none => s
  | some i => s.clearCauses i

/-- SESSION STATUS (R176). -/
def execSessionStatus (session : Option Nat) (s : State) : Host.Outcome State Fault Refusal :=
  match s.takingBatch with
  | none => .next s
  | some b => .next (s.takeStatus 10 b (s.judgeStatus session) fun t => t.clearNamed session)

/-- PROFILE (R6 to R12). -/
def execProfile (note : Option ProfileNote) (s : State) : Host.Outcome State Fault Refusal :=
  match s.takingBatch with
  | none => .next s
  | some b => .next (s.takeNote 13 false b (s.profileBody note))

/-- LADDER LOAD (R22 to R31). -/
def execLadderLoad (note : Option LadderNote) (s : State) : Host.Outcome State Fault Refusal :=
  match s.takingBatch with
  | none => .next s
  | some b => .next (s.takeNote 14 false b (s.ladderBody note))

end Sys2Proof.Machine
end

