-- ==== Sys2Proof/Machine/TetherNotes.lean ====
section
/-! DEFINITION. The meanings of TETHER, UNTETHER and REARM (R142, R146 to R152). -/

namespace Sys2Proof.Machine

/-- The session is PRIMED or STREAMING, as a member of a tether is (R145). -/
def Session.isTetherable (x : Session) : Bool :=
  match x.admin with
  | .vacant => false
  | .unprofiled => false
  | .primed => true
  | .streaming => true

/-- The first failing check of a TETHER between two sessions, if any: the admin states of R3, which carry detail 2, and then
the checks of R146. -/
def State.tetherFault (s : State) (leader follower : SessionIx) : Option Nat :=
  if !((s.session leader).isTetherable && (s.session follower).isTetherable) then some 2
  else if leader = follower then some 1
  else if (s.session leader).follows then some 3
  else if (s.session follower).role ≠ .independent then some 4
  else if 3 ≤ (s.session leader).followers.length then some 5
  else none

/-- The effects of an accepted TETHER (R147). -/
def State.tether (s : State) (leader follower : SessionIx) (map : Option (List Nat)) : State :=
  let t := (s.bind leader follower map).recompute
  if (t.session follower).targets = (s.session follower).targets then t else t.examine

/-- TETHER's body (R146, R147). -/
def State.tetherBody (s : State) (note : Option TetherNote) : State × Answer :=
  match note.filter fun n => !n.malformed with
  | none => refuseWith s .malformed
  | some n =>
    match sessionIx? n.leader, sessionIx? n.follower with
    | some l, some f =>
      match s.tetherFault l f with
      | some check => (s, { code := .tetherInvalid, detail := some check })
      | none => (s.tether l f n.map, Answer.done (mapClamped n.map))
    | some _, none => refuseWith s .badSession
    | none, _ => refuseWith s .badSession

/-- UNTETHER's body (R151). -/
def State.untetherBody (s : State) (session : Option Nat) : State × Answer :=
  s.sessionNote .profiled id session fun i _ =>
    match (s.session i).role with
    | .follower l => ((s.release l i).recompute, Answer.done false)
    | .independent => (s, { code := .tetherInvalid, detail := some 4 })
    | .leader _ => (s, { code := .tetherInvalid, detail := some 4 })

/-- The effects of a REARM on a session that is not a follower (R142). -/
def State.rearm (s : State) (i : SessionIx) : State :=
  let x := s.session i
  match x.draw.phase with
  | .off => s
  | .watching | .retryWait | .latched =>
    let t := s.modSession i fun y => y.rearmed s.time
    if x.draw.cap.isSome && x.isContender then t.recompute else t

/-- REARM's body (R142). -/
def State.rearmBody (s : State) (session : Option Nat) : State × Answer :=
  s.sessionNote .profiled id session fun i _ =>
    if (s.session i).follows then refuseWith s .tethered else (s.rearm i, Answer.done false)

/-- TETHER (R146 to R149). -/
def execTether (note : Option TetherNote) (s : State) : Host.Outcome State Fault Refusal :=
  match s.takingBatch with
  | none => .next s
  | some b => .next (s.takeNote 15 false b (s.tetherBody note))

/-- UNTETHER (R151, R152). -/
def execUntether (session : Option Nat) (s : State) : Host.Outcome State Fault Refusal :=
  match s.takingBatch with
  | none => .next s
  | some b => .next (s.takeNote 11 false b (s.untetherBody session))

/-- REARM (R142). -/
def execRearm (session : Option Nat) (s : State) : Host.Outcome State Fault Refusal :=
  match s.takingBatch with
  | none => .next s
  | some b => .next (s.takeNote 12 false b (s.rearmBody session))

end Sys2Proof.Machine
end

