-- ==== Sys2Proof/Machine/Timers.lean ====
section
/-! DEFINITION. The meanings of the timer and clock events: each acts when its timer or count has been reached, and changes
nothing otherwise (log entry 18). -/

namespace Sys2Proof.Machine

/-- The busy milliseconds of a link sample (R48). -/
def samplePeriod : Nat := 500

/-- A link sample is taken: the accumulators are cleared, the sample applied and counted, and the shares recomputed
(R48 to R50, R52). -/
def State.sampleLink (s : State) : State :=
  State.recompute
    { s with meter.estimate := linkUpdate s.meter.estimate (linkSampleValue s.meter.byteAcc)
             meter.busyAcc := 0, meter.byteAcc := 0, meter.linkSamples := s.meter.linkSamples + 1 }

/-- A busy millisecond (R46, R52). -/
def State.accrueBusy (s : State) : State :=
  { s with meter.busyAcc := s.meter.busyAcc + 1, meter.busyTime := s.meter.busyTime + 1 }

/-- The freshness timer of a session is reached (R69). -/
def State.blindSession (s : State) (i : SessionIx) : State :=
  let blind := s.modSession i Session.blinded
  match (s.session i).buffer.freshness with
  | .fresh => blind.raiseOn i .blind
  | .recovering => blind
  | .blind => blind

/-- The retry timer of a contender is reached (R140). -/
def State.retry (s : State) (i : SessionIx) : State :=
  ((s.modSession i fun x => x.retried s.time).raiseOn i .retry).recompute

/-- A draw window ends: it is evaluated for each contender in an order, and the window quantities are cleared (R130,
R131). -/
def State.endWindow (s : State) (order : List SessionIx) : State :=
  { ((windowOrder order).foldl State.evaluateWindow s).clearWindows with windowDue := false }

/-- The deadline of a slot has been reached and has not passed yet (R119). -/
def Slot.deadlineReached (x : Slot) (now : Time) : Bool := !x.missed && timerReached now x.deadline

/-- LINK_SAMPLE (R48). -/
def execLinkSample (s : State) : Host.Outcome State Fault Refusal :=
  .next (s.unlessReset fun t => if samplePeriod ≤ t.meter.busyAcc then t.sampleLink else t)

/-- EMPTY_POINT (R57). -/
def execEmptyPoint (i : SessionIx) (s : State) : Host.Outcome State Fault Refusal :=
  .next (s.unlessReset fun t =>
    if timerReached t.time (t.session i).buffer.emptyPoint then t.modSession i fun x => x.emptied t.time else t)

/-- FRESHNESS_TIMER_EXPIRY (R69). -/
def execFreshnessTimerExpiry (i : SessionIx) (s : State) : Host.Outcome State Fault Refusal :=
  .next (s.unlessReset fun t =>
    if timerReached t.time (t.session i).buffer.freshTimer then settle t (t.blindSession i) else t)

/-- UP_HOLD_EXPIRY (R88). -/
def execUpHoldExpiry (i : SessionIx) (s : State) : Host.Outcome State Fault Refusal :=
  .next (s.unlessReset fun t =>
    if timerReached t.time (t.session i).upHold then t.modSession i fun x => { x with upHold := none } else t)

/-- DEADLINE (R119). -/
def execDeadline (k : SlotIx) (s : State) : Host.Outcome State Fault Refusal :=
  .next (s.unlessReset fun t =>
    match t.slot k with
    | none => t
    | some x => if x.deadlineReached t.time then settle t (t.missDeadline k x) else t)

/-- EXPIRY (R122). -/
def execExpiry (k : SlotIx) (s : State) : Host.Outcome State Fault Refusal :=
  .next (s.unlessReset fun t =>
    match t.slot k with
    | none => t
    | some x => if reached t.time x.expiry then settle t (t.expireSlot k x) else t)

/-- SPACING_HOLD_EXPIRY (R114). -/
def execSpacingHoldExpiry (s : State) : Host.Outcome State Fault Refusal :=
  .next (s.unlessReset fun t =>
    if timerReached t.time t.gate.spacingHold then State.examine { t with gate.spacingHold := none } else t)

/-- DRAIN_TIMER_EXPIRY (R113). -/
def execDrainTimerExpiry (i : SessionIx) (s : State) : Host.Outcome State Fault Refusal :=
  .next (s.unlessReset fun t =>
    if timerReached t.time (t.session i).drainTimer then
      (t.modSession i fun x => { x with drainTimer := none }).examine
    else t)

/-- DRAW_WINDOW (R130, R131): at a multiple of 100 (log entry 9). -/
def execDrawWindow (order : List SessionIx) (s : State) : Host.Outcome State Fault Refusal :=
  .next (s.unlessReset fun t => if t.time.toNat % 100 = 0 then t.endWindow order else t)

/-- RETRY_EXPIRY (R140). -/
def execRetryExpiry (i : SessionIx) (s : State) : Host.Outcome State Fault Refusal :=
  .next (s.unlessReset fun t =>
    if (t.session i).draw.phase = .retryWait && timerReached t.time (t.session i).draw.retryTimer then
      settle t (t.retry i)
    else t)

/-- FLOW_IDLE (R165). -/
def execFlowIdle (key : FlowKey) (s : State) : Host.Outcome State Fault Refusal :=
  .next (s.unlessReset fun t => settle t (t.removeIdle fun e => decide (e.key = key)))

/-- BUSY_MILLISECOND (R46, R52): a millisecond of device time that has just begun is taken; the busy accumulator waits at
500 for its link sample (log entry 2). -/
def execBusyMillisecond (s : State) : Host.Outcome State Fault Refusal :=
  .next (s.unlessReset fun t =>
    let taken := { t with msDue := false }
    if t.meterBusy && decide (t.meter.busyAcc < samplePeriod) then taken.accrueBusy else taken)

end Sys2Proof.Machine
end

