-- ==== Sys2Proof/Machine/Dispatch.lean ====
section
/-! DEFINITION. The dispatch of every command to its meaning: its effect on everything but the queue of waiting commands. -/

namespace Sys2Proof.Machine

/-- The effect of a command, each by its own meaning. -/
def exec (i : Instr) (s : State) : Host.Outcome State Fault Refusal :=
  match i with
  | .powerOn => Sys2Proof.Machine.execPowerOn s
  | .resetInput => Sys2Proof.Machine.execResetInput s
  | .resetInputRelease => Sys2Proof.Machine.execResetInputRelease s
  | .lineCarrierUp => Sys2Proof.Machine.execLineCarrierUp s
  | .lineCarrierDown => Sys2Proof.Machine.execLineCarrierDown s
  | .stationCarrierEvent up => Sys2Proof.Machine.execStationCarrierEvent up s
  | .downlinkFrame f => Sys2Proof.Machine.execDownlinkFrame f s
  | .uplinkFrame f => Sys2Proof.Machine.execUplinkFrame f s
  | .controlFrame f => Sys2Proof.Machine.execControlFrame f s
  | .batch => Sys2Proof.Machine.execBatch s
  | .claim part => Sys2Proof.Machine.execClaim part s
  | .setup note => Sys2Proof.Machine.execSetup note s
  | .deviceStatus note => Sys2Proof.Machine.execDeviceStatus note s
  | .linkSnapshot note => Sys2Proof.Machine.execLinkSnapshot note s
  | .linkRestart note => Sys2Proof.Machine.execLinkRestart note s
  | .deviceReset note => Sys2Proof.Machine.execDeviceReset note s
  | .deviceResetTaken => Sys2Proof.Machine.execDeviceResetTaken s
  | .openSession session => Sys2Proof.Machine.execOpenSession session s
  | .sessionReset session => Sys2Proof.Machine.execSessionReset session s
  | .closeSession session => Sys2Proof.Machine.execCloseSession session s
  | .sessionStatus session => Sys2Proof.Machine.execSessionStatus session s
  | .profile note => Sys2Proof.Machine.execProfile note s
  | .ladderLoad note => Sys2Proof.Machine.execLadderLoad note s
  | .tether note => Sys2Proof.Machine.execTether note s
  | .untether session => Sys2Proof.Machine.execUntether session s
  | .rearm session => Sys2Proof.Machine.execRearm session s
  | .flowBind note => Sys2Proof.Machine.execFlowBind note s
  | .flowUnbind note => Sys2Proof.Machine.execFlowUnbind note s
  | .askFetch note => Sys2Proof.Machine.execAskFetch note s
  | .doneFetch note => Sys2Proof.Machine.execDoneFetch note s
  | .abortFetch note => Sys2Proof.Machine.execAbortFetch note s
  | .play note => Sys2Proof.Machine.execPlay note s
  | .unknownNote noteType => Sys2Proof.Machine.execUnknownNote noteType s
  | .stationTransmit => Sys2Proof.Machine.execStationTransmit s
  | .lineTransmit => Sys2Proof.Machine.execLineTransmit s
  | .linkSample => Sys2Proof.Machine.execLinkSample s
  | .emptyPoint session => Sys2Proof.Machine.execEmptyPoint session s
  | .freshnessTimerExpiry session => Sys2Proof.Machine.execFreshnessTimerExpiry session s
  | .upHoldExpiry session => Sys2Proof.Machine.execUpHoldExpiry session s
  | .deadline slot => Sys2Proof.Machine.execDeadline slot s
  | .expiry slot => Sys2Proof.Machine.execExpiry slot s
  | .spacingHoldExpiry => Sys2Proof.Machine.execSpacingHoldExpiry s
  | .drainTimerExpiry session => Sys2Proof.Machine.execDrainTimerExpiry session s
  | .drawWindow order => Sys2Proof.Machine.execDrawWindow order s
  | .retryExpiry session => Sys2Proof.Machine.execRetryExpiry session s
  | .flowIdle key => Sys2Proof.Machine.execFlowIdle key s
  | .busyMillisecond => Sys2Proof.Machine.execBusyMillisecond s

end Sys2Proof.Machine
end

