-- ==== Sys2Proof/Machine/Clock.lean ====
section
/-! DEFINITION. The block's own time: what happens when no command is waiting. One thing happens at a step: an event that
is due at the present device time, the end of a transmission in progress, or, once nothing is due, the next millisecond of
device time. Among several, the choice is free (log entries 1 to 3). -/

namespace Sys2Proof.Machine

/-- The timer commands of one session that are due. -/
def State.dueOfSession (s : State) (i : SessionIx) : List Instr :=
  let x := s.session i
  (if timerReached s.time x.buffer.emptyPoint then [.emptyPoint i] else []) ++
  (if timerReached s.time x.buffer.freshTimer then [.freshnessTimerExpiry i] else []) ++
  (if timerReached s.time x.upHold then [.upHoldExpiry i] else []) ++
  (if timerReached s.time x.drainTimer then [.drainTimerExpiry i] else []) ++
  (if x.draw.phase = .retryWait && timerReached s.time x.draw.retryTimer then [.retryExpiry i] else [])

/-- The timer commands of one slot that are due. -/
def State.dueOfSlot (s : State) (k : SlotIx) : List Instr :=
  match s.slot k with
  | none => []
  | some x =>
    (if x.deadlineReached s.time then [.deadline k] else []) ++
    (if reached s.time x.expiry then [.expiry k] else [])

/-- The idle commands of the flow table that are due (R165). -/
def State.dueFlows (s : State) : List Instr :=
  (s.flows.filter fun e => e.isIdle s.time s.setup.idleLimit).map fun e => .flowIdle e.key

/-- The next work of the control note unit: the next note of the batch in execution, or the next batch (R170). -/
def State.dueNotes (s : State) : List Instr :=
  match s.control.batch with
  | some b => (b.rest.head?.bind decodeNote).toList
  | none => if s.control.inputQueue.isEmpty then [] else [.batch]

/-- The transmissions that can begin (R159, R161). -/
def State.dueTransmissions (s : State) : List Instr :=
  (if s.stationReady then [.stationTransmit] else []) ++ (if s.lineReady then [.lineTransmit] else [])

/-- Every command that is due at the present device time; a reset that is due is taken before anything else (R175). -/
def State.dueCommands (s : State) : List Instr :=
  match s.control.resetPhase with
  | .due => [.deviceResetTaken]
  | .quiet | .awaitingReply =>
    s.dueNotes ++
    (if s.msDue && s.meterBusy && decide (s.meter.busyAcc < samplePeriod) then [.busyMillisecond] else []) ++
    (if samplePeriod ≤ s.meter.busyAcc then [.linkSample] else []) ++
    (if timerReached s.time s.gate.spacingHold then [.spacingHoldExpiry] else []) ++
    (if s.windowDue then [.drawWindow (Config.windowOrder s.choices)] else []) ++
    allSessions.flatMap s.dueOfSession ++ allSlots.flatMap s.dueOfSlot ++ s.dueFlows ++ s.dueTransmissions

/-- What the block does of its own at a step. -/
inductive Move where
  | command (c : Instr)
  | stationSent
  | lineSent
  | millisecond
  deriving DecidableEq, Repr

/-- The end of the station port's transmission; the end of a DEVICE RESET's reply frame is the taking of the reset
(R175). -/
def State.stationEnd (s : State) : List Move :=
  match s.path.station.sending with
  | none => []
  | some t => if t.resetReply then [.command .deviceResetTaken] else [.stationSent]

/-- The end of the line port's transmission. -/
def State.lineEnd (s : State) : List Move := if s.path.line.sending.isSome then [.lineSent] else []

/-- The moves among which the next one is chosen: time does not pass while something is due. -/
def State.moves (s : State) : List Move :=
  s.dueCommands.map .command ++ s.stationEnd ++ s.lineEnd ++ (if s.dueCommands.isEmpty then [.millisecond] else [])

/-- Device time advances by one millisecond (00_scope.md, "Device time"); a busy millisecond and a window end that fall on
it are due. The place in the free choices moves on, so that each window end has an order of its own. -/
def State.tick (s : State) : State :=
  { s with time := s.time + 1, choices := s.choices + 1, msDue := s.meterBusy
           windowDue := decide ((s.time + 1).toNat % 100 = 0) }

/-- Takes one move. -/
def State.take (s : State) : Move → Host.Outcome State Fault Refusal
  | .command c => exec c s
  | .stationSent => .next { s with path.station.sending := none }
  | .lineSent => .next { s with path.line.sending := none }
  | .millisecond => .next s.tick

/-- The block's own step, when no command is waiting: the reset input holds everything; a single move is taken; one of
several is chosen freely. -/
def State.idle (s : State) : Host.Outcome State Fault Refusal :=
  if s.resetAsserted then .next s
  else
    match s.moves with
    | [] => .next s
    | [m] => s.take m
    | m :: n :: rest =>
      State.take { s with choices := s.choices + 1 }
        ((m :: n :: rest).getD (Config.choice s.choices % (rest.length + 2)) m)

end Sys2Proof.Machine
end

