-- ==== Sys2Proof/Safety.lean ====
section
/-! DEFINITION. The terms that claims about the part use: what a note leaves apart from its reply, when a note is heard and
answered, when the fetch gate is quiet, and the invariants of the part. -/

namespace Sys2Proof.Machine

/-- The state apart from what answering a note and announcing a cause move: the report queue and its drop counter, the
progress of the batch in execution, the last top attention sent, and the model's place in its free choices. -/
def State.apartFromReports (s : State) : State :=
  { s with path.reportQueue := [], path.reportNotesDropped := 0, control.batch := none, control.lastTop := none
           choices := 0 }

/-- The part runs, b is the batch in execution, and it was sent by the player that claimed the part (R170, R171). -/
structure State.Hears (s : State) (b : Batch) : Prop where
  running : s.resetAsserted = false
  executing : s.control.batch = some b
  claimed : s.control.claim.map Claim.player = some b.source

/-- A report frame of the batch, addressed as R171 gives, holds a REPLY (R160, R169). -/
def State.Replied (t : State) (b : Batch) (r : Reply) : Prop :=
  ∃ f ∈ t.path.reportQueue, f.isReply = true ∧ f.batch = b.number ∧ f.dest = t.replyDest b ∧ OutNote.reply r ∈ f.notes

/-- The notes right behind the next one of a batch that run past the end of the frame: they are answered with it (R170). -/
def Batch.unreadable (b : Batch) : List RawNote := b.rest.tail.takeWhile fun r => !r.readable

/-- What becomes of the reply to a batch's next note, from the state e that the note's effects leave to the state t behind
the note (R160): the batch's first reply begins a frame when the report queue has room; a further one joins the open reply
frame; and where the frame could not be begun it is dropped and counted, with the replies to the unreadable notes behind it.
(The count is read where the comparison of R179 has no ATTENTION to send, which could be dropped as well.) -/
structure State.Answered (e t : State) (b : Batch) (r : Reply) : Prop where
  begins : b.reply = .notBegun → e.path.reportQueue.length < 8 → t.Replied b r
  joins : b.reply = .begun → ∀ before f behind, e.path.reportQueue = before ++ f :: behind → f.isOpen = true →
    f.isReply = true → (∀ h ∈ before, h.isOpen = false) → ∃ g ∈ t.path.reportQueue, g.isReply = true ∧
      g.batch = f.batch ∧ g.dest = f.dest ∧ (f.notes ++ [OutNote.reply r]) <+: g.notes
  dropped : b.reply = .dropped ∨ (b.reply = .notBegun ∧ 8 ≤ e.path.reportQueue.length) →
    (∀ x, e.topAttention = some x → e.control.lastTop = some x) →
    t.path.reportNotesDropped = e.path.reportNotesDropped + BitVec.ofNat 32 (1 + b.unreadable.length)

/-- The command c, taken for the batch b, leaves the state e apart from reports, and the reply r is queued or dropped as
R160 gives. -/
def Answers (c : Instr) (s : State) (b : Batch) (e : State) (r : Reply) : Prop :=
  ∃ t, exec c s = .next t ∧ t.apartFromReports = e.apartFromReports ∧ e.Answered t b r

/-- The note command c, taken for the batch b, leaves the state e apart from reports, and is answered in its position and
under its type with a code and a detail, without a payload. -/
def NoteDoes (c : Instr) (s : State) (b : Batch) (e : State) (noteType : Byte) (code : ReplyCode) (detail : Option Nat) :
    Prop :=
  Answers c s b e { position := b.position, noteType := noteType, code := code, detail := detail, payload := none }

/-- The code of a note that was executed (R177). -/
def acceptedCode (clamped : Bool) : ReplyCode := if clamped then .acceptedClamped else .accepted

/-- The cause is one of the device's (R178). -/
def Cause.ofDevice : Cause → Bool
  | .linkDown => true
  | .linkUp => true
  | .latched => false
  | .overdraw => false
  | .resync => false
  | .blind => false
  | .expired => false
  | .deadlineMiss => false
  | .flowExpired => false
  | .retry => false

/-- The pair of a cause and a session is pending: a device cause in the device's set, with session 0, or a session cause in
the session's set (R169, R178). -/
def State.HasPending (s : State) (c : Cause) (i : SessionIx) : Prop :=
  if c.ofDevice then s.control.devicePending.has c = true ∧ i = 0 else (s.session i).causes.has c = true

/-- The session a note command names, where its operand passes the structure checks (R2); TETHER names two and is not
here. -/
def namedSession : Instr → Option Nat
  | .openSession i => i
  | .sessionReset i => i
  | .closeSession i => i
  | .sessionStatus i => i
  | .profile n => n.map ProfileNote.session
  | .ladderLoad n => (n.filter fun a => !a.malformed).map LadderNote.session
  | .untether i => i
  | .rearm i => i
  | .flowBind n => n.map FlowNote.session
  | .flowUnbind n => n.map FlowNote.session
  | .askFetch n => n.map AskNote.session
  | .doneFetch n => n.map DoneNote.session
  | .abortFetch n => n.map AbortNote.session
  | .play n => n.map PlayNote.session
  | _ => none

/-- The refusals of R3's table for a note that names one session, by the session's admin state. -/
def refusalOf : Instr → Admin → Option ReplyCode
  | .openSession _, .unprofiled => some .sessionBusy
  | .openSession _, .primed => some .sessionBusy
  | .openSession _, .streaming => some .sessionBusy
  | .openSession _, .vacant => none
  | .untether _, .unprofiled => some .notProfiled
  | .rearm _, .unprofiled => some .notProfiled
  | .ladderLoad (some n), .unprofiled => if n.publish then some .notProfiled else none
  | .askFetch _, .unprofiled => some .notProfiled
  | .doneFetch _, .unprofiled => some .notProfiled
  | .abortFetch _, .unprofiled => some .notProfiled
  | .play _, .unprofiled => some .notProfiled
  | .askFetch _, .primed => some .noLadder
  | .doneFetch _, .primed => some .noLadder
  | .abortFetch _, .primed => some .noLadder
  | .play _, .primed => some .noLadder
  | _, .vacant => some .sessionVacant
  | _, _ => none

/-- A note command whose note's structure fails (R2 step 1, R22, R146). -/
def structureFails : Instr → Bool
  | .setup n => n.isNone
  | .deviceStatus n => n.isNone
  | .linkSnapshot n => n.isNone
  | .linkRestart n => n.isNone
  | .deviceReset n => n.isNone
  | .openSession i => i.isNone
  | .sessionReset i => i.isNone
  | .closeSession i => i.isNone
  | .sessionStatus i => i.isNone
  | .profile n => n.isNone
  | .ladderLoad n => n.all LadderNote.malformed
  | .tether n => n.all TetherNote.malformed
  | .untether i => i.isNone
  | .rearm i => i.isNone
  | .flowBind n => n.isNone
  | .flowUnbind n => n.isNone
  | .askFetch n => n.isNone
  | .doneFetch n => n.isNone
  | .abortFetch n => n.isNone
  | .play n => n.isNone
  | _ => false

/-- The checks of a publish, by number (R24). -/
def Staging.Passes (g : Staging) : Nat → Prop
  | 1 => g.count ≠ none
  | 2 => ∀ n, g.count = some n → ∀ k, k < n → g.rung? k ≠ none
  | 3 => ∀ n, g.count = some n → ∀ k a b, k + 1 < n → g.rung? k = some a → g.rung? (k + 1) = some b → a.bitrate < b.bitrate
  | 4 => ∀ n, g.count = some n → ∃ k a, k < n ∧ g.rung? k = some a ∧ a.skip = false
  | 5 => ∀ n, g.count = some n → ∃ f a, g.fallback = some f ∧ f < n ∧ g.rung? f = some a ∧ a.skip = false
  | _ => True

/-- The checks of a TETHER between two sessions, by number (R146); check 2 is judged with step 3 and so before check 1. -/
def State.TetherPasses (s : State) (l f : SessionIx) : Nat → Prop
  | 1 => l ≠ f
  | 2 => ∀ i, i = l ∨ i = f → (s.session i).admin = .primed ∨ (s.session i).admin = .streaming
  | 3 => ∀ m, (s.session l).role ≠ .follower m
  | 4 => (s.session f).role = .independent
  | 5 => (s.session l).followers.length < 3
  | _ => True

/-- The record that SESSION RESET leaves (R16), with the admin state of the reset or the close: everything not kept by the
rule's last rows is at its value. The window quantities are kept (log entry 26). -/
def Session.afterReset (x : Session) (admin : Admin) (now : Time) : Session :=
  { admin := admin, profile := none, eff := none, staging := x.staging, published := none, generation := x.generation
    estimates := none
    buffer := { playback := .stopped, anchor := 0, anchorTime := now, emptyPoint := none, freshness := .fresh
                freshTimer := none }
    shares := none, rung := none, upHold := none, nextTag := x.nextTag, expiredTags := [], missRun := 0
    drainTimer := none
    draw := { phase := .off, cap := none, retriesUsed := 0, retryTimer := none, stageClock := 0, overTime := 0
              quietRun := 0, openMark := false, penaltyMark := false, entryTime := none, settled := false
              lastWindow := none, windowBytes := x.draw.windowBytes, receivingMark := x.draw.receivingMark
              nextBytes := x.draw.nextBytes, nextMark := x.draw.nextMark }
    role := .independent, causes := 0
    stats := { segmentsCompleted := 0, shortFetches := 0, bytesAttributed := 0, unsolicitedBytes := 0
               deadlineMisses := 0, expiries := 0, stalls := 0, overdraws := 0, rungMovesUp := 0, rungMovesDown := 0 } }

/-- The record of a follower released while PRIMED or STREAMING (R152): role NONE, and the draw state that the copied draw
kind starts; a START staircase is marked to open, and a supervised one enters supervision (R130; log entry 24). -/
def Session.afterRelease (x : Session) (kind : DrawKind) (now : Time) : Session :=
  { x with
    role := .independent
    draw :=
      match kind with
      | .unwatched => { x.draw with phase := .off }
      | .start =>
        if x.admin = .streaming then
          { x.draw with phase := .watching, openMark := true, entryTime := some now, settled := false }
        else { x.draw with phase := .watching, openMark := true }
      | .live => { x.draw with phase := .watching, entryTime := some now, settled := false } }

/-- The record after a REARM in WATCHING, RETRY_WAIT or LATCHED (R142). -/
def Session.afterRearm (x : Session) (kind : DrawKind) (now : Time) : Session :=
  { x with
    draw :=
      let d := { x.draw with phase := .watching, cap := none, retryTimer := none, retriesUsed := 0, overTime := 0
                             quietRun := 0, penaltyMark := false }
      match kind with
      | .unwatched => d
      | .start =>
        if x.admin = .streaming then
          { d with openMark := false, stageClock := 0, entryTime := some now, settled := false }
        else { d with openMark := true }
      | .live => { d with entryTime := some now, settled := false } }

/-- The commands that stand for notes the part executes, with the type each is answered under (R169). -/
def noteTypeOf : Instr → Option Byte
  | .claim _ => some 1
  | .setup _ => some 2
  | .deviceStatus _ => some 3
  | .linkSnapshot _ => some 4
  | .linkRestart _ => some 5
  | .deviceReset _ => some 6
  | .openSession _ => some 7
  | .sessionReset _ => some 8
  | .closeSession _ => some 9
  | .sessionStatus _ => some 10
  | .untether _ => some 11
  | .rearm _ => some 12
  | .profile _ => some 13
  | .ladderLoad _ => some 14
  | .tether _ => some 15
  | .flowBind _ => some 16
  | .flowUnbind _ => some 17
  | .askFetch _ => some 18
  | .doneFetch _ => some 19
  | .abortFetch _ => some 20
  | .play _ => some 21
  | .powerOn => none
  | .resetInput => none
  | .resetInputRelease => none
  | .lineCarrierUp => none
  | .lineCarrierDown => none
  | .stationCarrierEvent _ => none
  | .downlinkFrame _ => none
  | .uplinkFrame _ => none
  | .controlFrame _ => none
  | .batch => none
  | .deviceResetTaken => none
  | .unknownNote _ => none
  | .stationTransmit => none
  | .lineTransmit => none
  | .linkSample => none
  | .emptyPoint _ => none
  | .freshnessTimerExpiry _ => none
  | .upHoldExpiry _ => none
  | .deadline _ => none
  | .expiry _ => none
  | .spacingHoldExpiry => none
  | .drainTimerExpiry _ => none
  | .drawWindow _ => none
  | .retryExpiry _ => none
  | .flowIdle _ => none
  | .busyMillisecond => none

/-- An index k is the highest one that meets a test below a rung count, or the fallback index when none meets it
(00_scope.md, "Rungs, ladders and need"). -/
def IsHighest (count : Nat) (test : Nat → Prop) (otherwise k : Nat) : Prop :=
  (k < count ∧ test k ∧ ∀ j, j < count → test j → j ≤ k) ∨ ((∀ j, j < count → ¬ test j) ∧ k = otherwise)

/-- The lowest rung of a ladder that is not skipped (00_scope.md, "Rungs, ladders and need"). -/
def Ladder.IsLowest (l : Ladder) (low : Nat) : Prop :=
  low < l.rungs.length ∧ l.usable low = true ∧ ∀ k, k < low → l.usable k = false

/-- A rung is allowed under a ceiling and a draw cap, where low is the lowest rung that is not skipped (R34; 00_scope.md,
"Rungs, ladders and need"). -/
def Ladder.Allows (l : Ladder) (low ceiling : Nat) (cap : Option Nat) (k : Nat) : Prop :=
  l.usable k = true ∧ (k = low ∨ (k ≤ ceiling ∧ ∀ c, cap = some c → k ≤ c))

/-- The record with a current rung and its move counted by index (R19, R28, R99): a rung set where none was present counts
nothing. -/
def Session.withRung (x : Session) (k : Nat) : Session :=
  { x with
    rung := some k
    stats.rungMovesUp := if x.rung.any (fun r => decide (r < k)) then x.stats.rungMovesUp + 1 else x.stats.rungMovesUp
    stats.rungMovesDown := if x.rung.any (fun r => decide (k < r)) then x.stats.rungMovesDown + 1 else x.stats.rungMovesDown }

/-- The deadline that a restart of the up-hold sets (R88). -/
def Profile.upHoldFrom (p : Profile) (now : Time) : Option Time := if p.upHold = 0 then none else some (later now p.upHold)

/-- From s to t every STREAMING follower of a list is derived from the leader rung k, and nothing else changes (R103): its
rung becomes the highest rung of its own ladder at or below its map entry for k, under its own ceiling and no cap, and the
move is counted on it. -/
def State.FollowersDerived (s t : State) (fs : List FollowerEntry) (k : Nat) : Prop :=
  t = { s with sessions := t.sessions } ∧
  (∀ j, (∀ e ∈ fs, e.index ≠ j) → t.session j = s.session j) ∧
  ∀ e ∈ fs,
    ((s.session e.index).admin ≠ .streaming → t.session e.index = s.session e.index) ∧
    ∀ (l : Ladder) (g : Effective) (low : Nat), (s.session e.index).admin = .streaming →
      (s.session e.index).published = some l → (s.session e.index).eff = some g → l.IsLowest low →
      ∃ m, IsHighest l.rungs.length (fun j => l.Allows low g.ceiling none j ∧ j ≤ (e.map[k]?).getD 0) low m ∧
        t.session e.index = (s.session e.index).withRung m

/-- The effective values a profile gives when every hint is discarded (R9, R13, R15). -/
def Profile.gives (p : Profile) : Effective :=
  { ceiling := p.defaultCeiling, ceilingSource := if p.pins.ceiling then .pinned else .profile
    target := p.bufferTarget, targetSource := if p.pins.target then .pinned else .profile
    speed := p.initialSpeed, speedSource := if p.pins.speed then .pinned else .profile
    lowGuard := min p.lowGuard p.bufferTarget, panicLevel := min p.panicLevel (min p.lowGuard p.bufferTarget) }

/-- The freshness supervision after a change of the freshness limit (R11). -/
def BufferModel.afterLimit (b : BufferModel) (old new : Option Nat) (now : Time) : BufferModel :=
  match new with
  | none => { b with freshness := .fresh, freshTimer := none }
  | some f =>
    if b.playback = .stopped then b
    else if old = none then { b with freshness := .fresh, freshTimer := some (later now f) }
    else { b with freshTimer := b.freshTimer.map fun _ => later now f }

/-- The buffer model re-anchored at a level for a speed (R56, R57). -/
def BufferModel.anchored (b : BufferModel) (level speed : Nat) (now : Time) : BufferModel :=
  { b with
    anchor := level, anchorTime := now
    emptyPoint := if b.playback = .playing ∧ level ≠ 0 then some (later now (ceilDiv (level * 8) speed)) else none }

/-- The draw state after a re-profile, by the four cases of R10; that retries used falls to the limit in RETRY_WAIT as well is
the model's (log entry 10). -/
def DrawState.afterProfile (d : DrawState) (old p : Profile) (now : Time) : DrawState :=
  if p.drawKind = old.drawKind then
    if d.retriesUsed < p.retryLimit then d
    else
      match d.phase with
      | .off => d
      | .watching => { d with retriesUsed := p.retryLimit }
      | .latched => { d with retriesUsed := p.retryLimit }
      | .retryWait => { d with phase := .latched, retryTimer := none, retriesUsed := p.retryLimit }
  else
    let c : DrawState := { d with cap := none, retryTimer := none, retriesUsed := 0, stageClock := 0, overTime := 0
                                  quietRun := 0, penaltyMark := false, openMark := decide (p.drawKind = .start) }
    if p.drawKind = .unwatched then { c with phase := .off }
    else { c with phase := .watching, entryTime := some now, settled := false }

/-- The record after a re-profile from an old profile and old effective values (R9, R10, R11, R61), before the lowering of
its rung: profile, effective values, buffer model, draw state, and the LATCHED cause where RETRY_WAIT ends in it. -/
def Session.afterProfile (x : Session) (old p : Profile) (e : Effective) (now : Time) : Session :=
  { x with
    profile := some p, eff := some p.gives
    buffer := BufferModel.afterLimit
      (if e.speed = p.initialSpeed then x.buffer else x.buffer.anchored (x.level now) p.initialSpeed now)
      old.freshnessLimit p.freshnessLimit now
    draw := x.draw.afterProfile old p now
    causes :=
      if p.drawKind = old.drawKind ∧ p.retryLimit ≤ x.draw.retriesUsed ∧ x.draw.phase = .retryWait then
        x.causes ||| Cause.latched.bit
      else x.causes }

/-- A follower's record after the copy of its leader's profile (R148): five fields of its profile stay its own, its target and
guards follow the copy, and a changed freshness limit acts by R11. -/
def Session.afterCopy (x : Session) (p : Profile) (now : Time) : Session :=
  match x.profile with
  | none => x
  | some own =>
    { x with
      profile := some { p with uplinkPriority := own.uplinkPriority, outstandingLimit := own.outstandingLimit
                               pins := own.pins, initialSpeed := own.initialSpeed, defaultCeiling := own.defaultCeiling }
      eff := x.eff.map fun g =>
        { g with target := p.bufferTarget, targetSource := if own.pins.target then .pinned else .profile
                 lowGuard := min p.lowGuard p.bufferTarget
                 panicLevel := min p.panicLevel (min p.lowGuard p.bufferTarget) }
      buffer := if own.freshnessLimit = p.freshnessLimit then x.buffer
                else x.buffer.afterLimit own.freshnessLimit p.freshnessLimit now }

/-- The slots a session occupies, in slot order. -/
def State.ownSlots (s : State) (i : SessionIx) : List Slot := (allSlots.filterMap s.slot).filter fun x => decide (x.session = i)

/-- The projected buffer (R65). -/
def State.projection (s : State) (i : SessionIx) : Nat :=
  (s.session i).level s.time + ((s.ownSlots i).map Slot.duration).sum

/-- Conditions 1, 2 and 4 of eligibility, for an outstanding limit (R111). -/
def State.Admits (s : State) (i : SessionIx) (limit : Nat) : Prop :=
  (allSlots.filterMap s.slot).length < s.setup.maxOutstanding ∧ (s.ownSlots i).length < limit ∧ s.gate.spacingHold = none

/-- The first three comparisons of the arbiter: one session's ask ranks strictly before another's (R115). -/
def State.RanksBefore (s : State) (i j : SessionIx) : Prop :=
  let panics := fun a => s.zone (s.judged a).1 = .panic
  let cls := fun a => (s.session a).profile.elim 3 fun p => ArbClass.rank p.cls
  (panics i ∧ ¬ panics j) ∨
  ((panics i ↔ panics j) ∧ (cls i < cls j ∨ (cls i = cls j ∧ s.projection i < s.projection j)))

/-- Weighted water-filling in rounds (R79), for floor needs, cap needs and weights: it fixes the shares of an open set from a
remainder. In the last round no tentative share reaches its cap need; in any other, the capped ones take theirs, and the
remainder falls by what they took above their floors. -/
inductive WaterFilled (floor cap weight share : SessionIx → Nat) : Nat → List SessionIx → Prop
  | last (r : Nat) (open' : List SessionIx)
      (below : ∀ i ∈ open', floor i + r * weight i / (open'.map weight).sum < cap i)
      (takes : ∀ i ∈ open', share i = floor i + r * weight i / (open'.map weight).sum) :
      WaterFilled floor cap weight share r open'
  | round (r : Nat) (open' capped others : List SessionIx)
      (reach : capped = open'.filter fun i => decide (cap i ≤ floor i + r * weight i / (open'.map weight).sum))
      (rest : others = open'.filter fun i => decide (floor i + r * weight i / (open'.map weight).sum < cap i))
      (some' : capped ≠ []) (takes : ∀ i ∈ capped, share i = cap i)
      (next : WaterFilled floor cap weight share (r - (capped.map fun i => cap i - floor i).sum) others) :
      WaterFilled floor cap weight share r open'

/-- The contender that a session's grants, flushes and completions are read for (R74, R129): the session itself, or the
leader it follows, while that is STREAMING. -/
def State.IsContenderOf (s : State) (i c : SessionIx) : Prop :=
  ((s.session i).role = .follower c ∨ (c = i ∧ ∀ l, (s.session i).role ≠ .follower l)) ∧ (s.session c).admin = .streaming

/-- What a publish is made of (R20 to R25): a publishing LADDER LOAD for session i that leaves the staging ladder g, which
passes every check and holds the ladder l with its lowest rung that is not skipped. -/
structure State.Publishes (s : State) (b : Batch) (n : LadderNote) (i : SessionIx) (g : Staging) (l : Ladder) (low : Nat) :
    Prop where
  hears : s.Hears b
  named : n.session = i.val
  publish : n.publish = true
  wellFormed : n.malformed = false
  staged : g = (s.session i).staging.load n
  count : g.count = some l.rungs.length
  fallback : g.fallback = some l.fallback
  rungs : ∀ k, k < l.rungs.length → g.rung? k = l.rungs[k]?
  passes : ∀ j, g.Passes j
  lowest : l.IsLowest low

/-- Nothing is due at the present device time, and both ports are idle: no note or batch waits, no timer or slot deadline has
been reached, no window end, link sample or busy millisecond waits, no flow is idle and no transmission can begin. -/
structure State.NothingDue (s : State) : Prop where
  reset : s.control.resetPhase ≠ .due
  notes : s.control.batch = none ∧ s.control.inputQueue = []
  meter : s.msDue = false ∧ s.meter.busyAcc < 500
  window : s.windowDue = false
  spacing : ∀ d, s.gate.spacingHold = some d → reached s.time d = false
  timers : ∀ i d, (s.session i).buffer.emptyPoint = some d ∨ (s.session i).buffer.freshTimer = some d ∨
    (s.session i).upHold = some d ∨ (s.session i).drainTimer = some d ∨
    ((s.session i).draw.phase = .retryWait ∧ (s.session i).draw.retryTimer = some d) → reached s.time d = false
  slots : ∀ k x, s.slot k = some x → reached s.time x.expiry = false ∧
    ∀ d, x.missed = false → x.deadline = some d → reached s.time d = false
  flows : ∀ e ∈ s.flows, elapsed s.time (e.lastHit.getD e.bindTime) < s.setup.idleLimit * 1000
  station : s.path.station.carrier = false ∨
    match s.path.reportQueue with
    | f :: _ => f.isOpen = true
    | [] => s.path.downlinkQueue = []
  line : s.path.line.carrier = false ∨ s.path.uplinkQueue = []
  idle : s.path.station.sending = none ∧ s.path.line.sending = none

/-- A value in n octets, most significant first (R169). -/
def octets : Nat → Nat → List Byte
  | 0, _ => []
  | n + 1, v => octets n (v / 256) ++ [BitVec.ofNat 8 v]

/-- A value of a status payload that may be absent (R169): octet 0, or octet 1 and the value. -/
def present {α : Type} (o : Option α) (f : α → List Byte) : List Byte :=
  match o with
  | none => [0]
  | some a => 1 :: f a

/-- A list of a status payload (R169): its number of entries in one octet, then the entries. -/
def counted {α : Type} (l : List α) (f : α → List Byte) : List Byte := BitVec.ofNat 8 l.length :: (l.map f).flatten

/-- A flag in one octet (R169). -/
def flag (b : Bool) : List Byte := if b then [1] else [0]

/-- The device values of SETUP lie in their ranges with the thresholds in order (R132, R172), the link estimate in its range
(R49), and the busy accumulator within a sample (R46). -/
structure State.DeviceInRange (s : State) : Prop where
  linkFloor : 256 ≤ s.setup.linkFloor ∧ s.setup.linkFloor ≤ 1000000
  margin : 8 ≤ s.setup.margin ∧ s.setup.margin ≤ 16
  maxOutstanding : 1 ≤ s.setup.maxOutstanding ∧ s.setup.maxOutstanding ≤ 8
  grantSpacing : s.setup.grantSpacing ≤ 255
  high : 17 ≤ s.setup.high ∧ s.setup.high ≤ 64
  mid : 17 ≤ s.setup.mid ∧ s.setup.mid ≤ s.setup.high
  low : 16 ≤ s.setup.low ∧ s.setup.low ≤ s.setup.mid
  stageA : s.setup.wA ≤ 10000
  stageB : s.setup.wB ≤ 20000
  steady : 100 ≤ s.setup.wS ∧ s.setup.wS ≤ 10000
  live : 100 ≤ s.setup.wM ∧ s.setup.wM ≤ 10000
  idle : 10 ≤ s.setup.idleLimit ∧ s.setup.idleLimit ≤ 600
  estimate : 256 ≤ s.meter.estimate ∧ s.meter.estimate ≤ 1000000
  busy : s.meter.busyAcc ≤ 500

/-- Every queue holds no more than its bound, and no session has two asks queued (R107, R159, R160, R167). -/
structure State.QueuesBounded (s : State) : Prop where
  downlink : s.path.downlinkQueue.length ≤ 32
  uplink : s.path.uplinkQueue.length ≤ 32
  reports : s.path.reportQueue.length ≤ 8
  control : s.control.inputQueue.length ≤ 4
  asks : (s.gate.askQueue.map Ask.session).Nodup

/-- The flow table's bounds (R163): at most 48 entries, no key twice, at most 4 entries a session, and each entry on a
non-vacant session. -/
structure State.FlowsSound (s : State) : Prop where
  table : s.flows.length ≤ 48
  keys : (s.flows.map FlowEntry.key).Nodup
  perSession : ∀ i, (s.flowsOf i).length ≤ 4
  bound : ∀ e ∈ s.flows, (s.session e.session).admin ≠ .vacant

/-- A record agrees with its admin state: a published ladder exactly in STREAMING (R21), a profile and effective values
exactly in PRIMED and STREAMING (R13), and an anchor within 0..120,000 (R54). -/
structure Session.Sound (x : Session) : Prop where
  published : x.published.isSome = true ↔ x.admin = .streaming
  profile : x.profile.isSome = true ↔ x.admin = .primed ∨ x.admin = .streaming
  effective : x.eff.isSome = x.profile.isSome
  anchor : x.buffer.anchor ≤ 120000

/-- Every record is sound. -/
def State.RecordsSound (s : State) : Prop := ∀ i, (s.session i).Sound

/-- The roles of the session table agree (R145): every listed follower follows that leader, every follower is listed by the
leader it names, a leader lists one to three followers, none twice, the members are PRIMED or STREAMING, and map entries are
rung indices. -/
structure State.TethersSound (s : State) : Prop where
  listed : ∀ l fs, (s.session l).role = .leader fs → ∀ e ∈ fs, (s.session e.index).role = .follower l
  leads : ∀ f l, (s.session f).role = .follower l → ∃ fs, (s.session l).role = .leader fs ∧ ∃ e ∈ fs, e.index = f
  size : ∀ l fs, (s.session l).role = .leader fs → 1 ≤ fs.length ∧ fs.length ≤ 3 ∧ (fs.map FollowerEntry.index).Nodup
  members : ∀ i, (s.session i).role ≠ .independent → (s.session i).admin = .primed ∨ (s.session i).admin = .streaming
  entries : ∀ l fs, (s.session l).role = .leader fs → ∀ e ∈ fs, ∀ k ∈ e.map.toList, k ≤ 11

end Sys2Proof.Machine
end

