-- ==== Sys2Proof/Certificates/Slice0/Obligations.lean ====
section
/-! DEFINITION. The statements about the part, one Prop each. Where a note's effect is compared, it is compared apart from
reports (State.apartFromReports): the report queue and its counter, the batch's own progress, the last top attention and the
model's place in its free choices, which statements of their own treat. -/

open Sys2Proof Sys2Proof.Machine

/-! The machine and its resets. -/

/-- A step takes the command at the front of the queue and runs exec on it, with the queue's rest. -/
def Obligations.StepRunsTheFrontCommand : Prop :=
  ∀ (c : Instr) (rest : List Instr) (s : State),
    step { s with pending := c :: rest } = exec c { s with pending := rest }

/-- Every command answers a next state in every state (no command stops the part: log entry 31), leaves the waiting commands
alone (log entry 1), and only the two reset-input commands move the level of the reset input; that POWER_ON keeps that level
is the model's choice (log entries 1 and 15). -/
def Obligations.EveryCommandAnswers : Prop :=
  ∀ (c : Instr) (s : State), ∃ t, exec c s = .next t ∧ t.pending = s.pending ∧
    (c = .resetInput → t.resetAsserted = true) ∧ (c = .resetInputRelease → t.resetAsserted = false) ∧
    (c ≠ .resetInput → c ≠ .resetInputRelease → t.resetAsserted = s.resetAsserted)

/-- The state after reset, field group by field group: R1, R49, R51, R52, R73, R107, R132, R157 to R167, R171, R172, R178 and
R179 give the values; that no reset is pending and no batch is in execution is R1's empty queues. -/
def Obligations.ResetLeavesThePowerOnState : Prop :=
  State.reset.time = 0 ∧
  (∀ i, (State.reset.session i).admin = .vacant ∧ (State.reset.session i).profile = none ∧
    (State.reset.session i).published = none ∧ (State.reset.session i).shares = none ∧
    (State.reset.session i).causes = 0 ∧ (State.reset.session i).role = .independent) ∧
  (∀ k, State.reset.slot k = none) ∧ State.reset.gate.askQueue = [] ∧ State.reset.gate.spacingHold = none ∧
  State.reset.setup = { linkFloor := 3000, margin := 13, maxOutstanding := 4, grantSpacing := 40, high := 40, mid := 28
                        low := 20, wA := 2000, wB := 6000, wS := 1500, wM := 3000, idleLimit := 120 } ∧
  State.reset.meter = { estimate := 3000, busyAcc := 0, byteAcc := 0, intervalStart := 0, downlinkBytes := 0
                        busyTime := 0, linkSamples := 0 } ∧
  State.reset.alloc = { total := 2437, spare := 2437, starved := false } ∧
  State.reset.control = { claim := none, batch := none, inputQueue := [], devicePending := 0, lastTop := none
                          resetPhase := .quiet } ∧
  State.reset.path = { line := { carrier := false, sending := none }, station := { carrier := false, sending := none }
                       downlinkQueue := [], uplinkQueue := [], reportQueue := [], downlinkDrops := 0, uplinkDrops := 0
                       reportNotesDropped := 0, controlFramesDropped := 0, otherBytes := 0, carrierDowns := 0 } ∧
  State.reset.flows = []

/-- POWER_ON and RESET_INPUT leave the reset state, the second with the input asserted; RESET_INPUT_RELEASE releases it and
changes nothing else; DEVICE_RESET_TAKEN leaves the reset state when the pending reset is due or its reply frame is in
transmission, and changes nothing otherwise. That the waiting commands and the model's place in its free choices stay is
the model's choice (log entry 1). -/
def Obligations.ResetsLeaveThePowerOnState : Prop :=
  ∀ s : State,
    exec .powerOn s = .next { State.reset with resetAsserted := s.resetAsserted, pending := s.pending
                                               choices := s.choices } ∧
    exec .resetInput s = .next { State.reset with resetAsserted := true, pending := s.pending, choices := s.choices } ∧
    exec .resetInputRelease s = .next { s with resetAsserted := false } ∧
    (s.resetAsserted = false →
      (s.control.resetPhase = .due ∨
        (s.control.resetPhase = .awaitingReply ∧ ∃ x, s.path.station.sending = some x ∧ x.resetReply = true)) →
      exec .deviceResetTaken s = .next { State.reset with pending := s.pending, choices := s.choices }) ∧
    (s.resetAsserted = false →
      (s.control.resetPhase = .quiet ∨
        (s.control.resetPhase = .awaitingReply ∧ ∀ x, s.path.station.sending = some x → x.resetReply = false)) →
      exec .deviceResetTaken s = .next s)

/-- While the reset input is asserted, no command but power-on and the input's own two changes anything, and neither does
time. Otherwise, with no command waiting: once nothing is due and both ports are idle, a step is one millisecond of device
time, which wraps; a millisecond that begins while the meter is busy then waits to be taken, and so does a window end at a
multiple of 100. While something is due no time passes, unless a pending reset is taken; and every timer, slot deadline and
expiry that has been reached, and every window end, is among what is due. (That an idle step is the part's own time, that it
takes one thing, and that the choice among several is free, is the model's: log entries 1 to 3.) -/
def Obligations.DeviceTimePassesWhenNothingIsDue : Prop :=
  ∀ s : State,
    (s.resetAsserted = true →
      (∀ c, c ≠ .powerOn → c ≠ .resetInput → c ≠ .resetInputRelease → exec c s = .next s) ∧
      (s.pending = [] → step s = .next s)) ∧
    (s.resetAsserted = false → s.pending = [] →
      (s.NothingDue → step s = .next
        { s with time := s.time + 1, choices := s.choices + 1, msDue := s.meterBusy
                 windowDue := decide ((s.time + 1).toNat % 100 = 0) }) ∧
      (s.dueCommands ≠ [] → ∃ t, step s = .next t ∧
        (t.time = s.time ∨ (s.control.resetPhase ≠ .quiet ∧ t.time = 0))) ∧
      (s.control.resetPhase = .due → s.dueCommands = [.deviceResetTaken]) ∧
      (s.control.resetPhase ≠ .due →
        (∀ i d, reached s.time d = true →
          ((s.session i).buffer.emptyPoint = some d → .emptyPoint i ∈ s.dueCommands) ∧
          ((s.session i).buffer.freshTimer = some d → .freshnessTimerExpiry i ∈ s.dueCommands) ∧
          ((s.session i).upHold = some d → .upHoldExpiry i ∈ s.dueCommands) ∧
          ((s.session i).drainTimer = some d → .drainTimerExpiry i ∈ s.dueCommands) ∧
          ((s.session i).draw.phase = .retryWait → (s.session i).draw.retryTimer = some d →
            .retryExpiry i ∈ s.dueCommands) ∧
          (s.gate.spacingHold = some d → .spacingHoldExpiry ∈ s.dueCommands)) ∧
        (∀ k x, s.slot k = some x →
          (reached s.time x.expiry = true → .expiry k ∈ s.dueCommands) ∧
          ∀ d, x.missed = false → x.deadline = some d → reached s.time d = true → .deadline k ∈ s.dueCommands) ∧
        (s.windowDue = true → ∃ order, .drawWindow order ∈ s.dueCommands)))

/-! Carriers, frames and transmissions. -/

/-- A rise of the line carrier raises LINK_UP, re-seeds the link estimate and recomputes the shares; a fall loses the
transmission in progress, is counted, raises LINK_DOWN and holds the link estimate and both accumulators; each announces its
cause when it was not pending and the queue takes the note. A transition of the station carrier raises no cause; a fall loses
the transmission in progress and makes a DEVICE RESET that waits for its reply frame due (that the reset is due then, and
taken at a step of its own, is the model's choice: log entry 16). A carrier event that finds its carrier so already is no
transition. -/
def Obligations.CarriersTurn : Prop :=
  ∀ (s : State) (up : Bool), s.resetAsserted = false →
    (s.path.line.carrier = true → exec .lineCarrierUp s = .next s) ∧
    (s.path.line.carrier = false → ∃ t, exec .lineCarrierUp s = .next t ∧
      t.apartFromReports = (State.recompute
        { s with path.line.carrier := true
                 control.devicePending := s.control.devicePending ||| Cause.linkUp.bit
                 meter.estimate := s.setup.linkFloor, meter.busyAcc := 0, meter.byteAcc := 0 }).apartFromReports ∧
      (s.control.devicePending.has .linkUp = false → s.control.claim ≠ none → s.path.reportQueue.length < 8 →
        t.control.lastTop = t.topAttention)) ∧
    (s.path.line.carrier = false → exec .lineCarrierDown s = .next s) ∧
    (s.path.line.carrier = true → ∃ t, exec .lineCarrierDown s = .next t ∧
      t.apartFromReports =
        State.apartFromReports
          { s with path.line := { carrier := false, sending := none }, path.carrierDowns := s.path.carrierDowns + 1
                   control.devicePending := s.control.devicePending ||| Cause.linkDown.bit } ∧
      (s.control.devicePending.has .linkDown = false → s.control.claim ≠ none → s.path.reportQueue.length < 8 →
        t.control.lastTop = t.topAttention)) ∧
    (s.path.station.carrier = up → exec (.stationCarrierEvent up) s = .next s) ∧
    (s.path.station.carrier = false → exec (.stationCarrierEvent true) s = .next { s with path.station.carrier := true }) ∧
    (s.path.station.carrier = true → s.control.resetPhase ≠ .awaitingReply →
      exec (.stationCarrierEvent false) s = .next { s with path.station := { carrier := false, sending := none } }) ∧
    (s.path.station.carrier = true → s.control.resetPhase = .awaitingReply →
      exec (.stationCarrierEvent false) s =
        .next { s with path.station := { carrier := false, sending := none }, control.resetPhase := .due })

/-- A port whose carrier is down receives nothing; a frame with a bad check sequence, or one longer than 1,522 bytes, is
counted as a drop of its direction and reaches no other block. -/
def Obligations.BadFramesAreDiscarded : Prop :=
  ∀ (s : State) (f : Frame), s.resetAsserted = false →
    (s.path.line.carrier = false → exec (.downlinkFrame f) s = .next s) ∧
    (s.path.station.carrier = false → exec (.uplinkFrame f) s = .next s ∧ exec (.controlFrame f) s = .next s) ∧
    (f.fcsOk = false ∨ 1522 < f.bytes.length + 4 →
      (s.path.line.carrier = true →
        exec (.downlinkFrame f) s = .next { s with path.downlinkDrops := s.path.downlinkDrops + 1 }) ∧
      (s.path.station.carrier = true →
        exec (.uplinkFrame f) s = .next { s with path.uplinkDrops := s.path.uplinkDrops + 1 } ∧
        exec (.controlFrame f) s = .next { s with path.uplinkDrops := s.path.uplinkDrops + 1 }))

/-- A good downlink frame joins the downlink queue or is dropped and counted, and its counted length enters the interval totals
and, while the meter is busy, the byte accumulator. One that hits no flow is counted in the other bytes. One that hits a flow
refreshes the entry; its bytes go to the session's slot of the earliest grant (of two grants at one time, the earlier made:
log entry 11), with its arrival times and the statistic, and that slot makes the meter busy; without an occupied slot they are
unsolicited bytes of the session. The window bytes and the receiving mark are those of the window that holds the frame's time:
at a window end that has not been taken yet, the next one's (log entry 2). -/
def Obligations.DownlinkFrameIsAttributed : Prop :=
  ∀ (s : State) (f : Frame), s.resetAsserted = false → s.path.line.carrier = true → f.fcsOk = true →
    f.bytes.length + 4 ≤ 1522 →
    ∀ (path : FramePath) (meter : Nat → LinkMeter),
      path = { s.path with
        downlinkQueue :=
          if s.path.downlinkQueue.length < 32 then s.path.downlinkQueue ++ [f.bytes] else s.path.downlinkQueue
        downlinkDrops :=
          if s.path.downlinkQueue.length < 32 then s.path.downlinkDrops else s.path.downlinkDrops + 1 } →
      (∀ n, meter n = { s.meter with
        byteAcc := s.meter.byteAcc + n
        downlinkBytes := s.meter.downlinkBytes + BitVec.ofNat 64 (countedLength f.bytes) }) →
      ((∀ k, downlinkKey f.bytes = some k → ∀ e ∈ s.flows, e.key ≠ k) →
        exec (.downlinkFrame f) s = .next
          { s with
            path := { path with otherBytes := s.path.otherBytes + BitVec.ofNat 64 (countedLength f.bytes) }
            meter := meter (if s.meterBusy then countedLength f.bytes else 0) }) ∧
      ∀ (e : FlowEntry) (flows : List FlowEntry), (s.flows.map FlowEntry.key).Nodup → e ∈ s.flows →
        downlinkKey f.bytes = some e.key →
        flows = s.flows.map (fun g => if g = e then { g with lastHit := some s.time, hits := g.hits + 1 } else g) →
        (∀ k x, s.slot k = some x → x.session = e.session →
          (∀ m y, m ≠ k → s.slot m = some y → y.session = e.session →
            elapsed s.time y.grantTime < elapsed s.time x.grantTime ∨
            (elapsed s.time y.grantTime = elapsed s.time x.grantTime ∧ x.order < y.order)) →
          exec (.downlinkFrame f) s = .next
            { (s.setSlot k (some { x with
                  bytes := min 4294967295 (x.bytes + countedLength f.bytes)
                  phase := match x.phase with
                    | .granted => .receiving s.time s.time
                    | .receiving first _ => .receiving first s.time })).modSession e.session (fun y => { y with
                  stats.bytesAttributed := y.stats.bytesAttributed + BitVec.ofNat 32 (countedLength f.bytes)
                  draw :=
                    if s.windowDue then
                      { y.draw with
                        nextBytes := y.draw.nextBytes + countedLength f.bytes
                        nextMark := y.draw.nextMark || decide (x.phase = .granted) }
                    else
                      { y.draw with
                        windowBytes := y.draw.windowBytes + countedLength f.bytes
                        receivingMark := y.draw.receivingMark || decide (x.phase = .granted) } }) with
              flows := flows, path := path, meter := meter (countedLength f.bytes) }) ∧
        ((∀ k x, s.slot k = some x → x.session ≠ e.session) →
          exec (.downlinkFrame f) s = .next
            { s.modSession e.session (fun y => { y with
                  stats.unsolicitedBytes := y.stats.unsolicitedBytes + BitVec.ofNat 32 (countedLength f.bytes) }) with
              flows := flows, path := path, meter := meter (if s.meterBusy then countedLength f.bytes else 0) })

/-- An uplink frame that is not for the control note unit joins the uplink queue, or is dropped and counted. One that hits
no flow passes unchanged; one that hits refreshes the entry, and a tagged one takes the uplink priority of the session's
profile, if there is one, into the three most significant bits of its tag's control field. A CONTROL_FRAME command that
carries such a frame is the uplink frame it is (log entry 17). -/
def Obligations.UplinkFrameIsForwarded : Prop :=
  ∀ (s : State) (f : Frame), s.resetAsserted = false → s.path.station.carrier = true → f.fcsOk = true →
    f.bytes.length + 4 ≤ 1522 → s.takesControl f.bytes = false →
    (∀ c, c = Instr.uplinkFrame f ∨ c = Instr.controlFrame f →
      ((∀ k, uplinkKey f.bytes = some k → ∀ e ∈ s.flows, e.key ≠ k) → exec c s = .next (s.queueUplink f.bytes)) ∧
      (∀ e ∈ s.flows, (s.flows.map FlowEntry.key).Nodup → uplinkKey f.bytes = some e.key →
        ∀ p : Option Nat, (s.session e.session).profile.bind Profile.uplinkPriority = p →
        exec c s = .next (State.queueUplink
          { s with flows := s.flows.map fun g =>
              if g = e then { g with lastHit := some s.time, hits := g.hits + 1 } else g }
          (match p with
           | none => f.bytes
           | some v =>
             if isTagged f.bytes then
               f.bytes.set 14 (BitVec.ofNat 8 (v * 32 + (f.bytes.getD 14 0).toNat % 32))
             else f.bytes)))) ∧
    (∀ bs, s.path.uplinkQueue.length < 32 →
      s.queueUplink bs = { s with path.uplinkQueue := s.path.uplinkQueue ++ [bs] }) ∧
    (∀ bs, 32 ≤ s.path.uplinkQueue.length →
      s.queueUplink bs = { s with path.uplinkDrops := s.path.uplinkDrops + 1 })

/-- A good frame of type 0x9A5C to the control group address, or to the part address of a claimed part, is consumed: it
waits in the control input queue, or is dropped and counted when 4 wait already, or, while the part is reset-pending, is
discarded uncounted. -/
def Obligations.ControlFrameIsConsumed : Prop :=
  ∀ (s : State) (f : Frame) (c : Instr), c = .uplinkFrame f ∨ c = .controlFrame f →
    s.resetAsserted = false → s.path.station.carrier = true → f.fcsOk = true → f.bytes.length + 4 ≤ 1522 →
    frameType f.bytes = 0x9A5C →
    (destAddr f.bytes = 0x0F4B57002140#48 ∨ ∃ k, s.control.claim = some k ∧ destAddr f.bytes = k.part) →
    (s.control.resetPhase = .quiet → s.control.inputQueue.length < 4 →
      exec c s = .next { s with control.inputQueue := s.control.inputQueue ++ [f.bytes] }) ∧
    (s.control.resetPhase = .quiet → 4 ≤ s.control.inputQueue.length →
      exec c s = .next { s with path.controlFramesDropped := s.path.controlFramesDropped + 1 }) ∧
    (s.control.resetPhase ≠ .quiet → exec c s = .next s)

/-- Each port begins a transmission when its carrier is up and it is idle: the station port sends the oldest report frame
once it is closed, nothing while that is open, and the oldest downlink frame when no report frame is queued; the line port
sends the oldest uplink frame. A frame leaves its queue as its transmission begins. -/
def Obligations.TransmissionsBegin : Prop :=
  ∀ s : State, s.resetAsserted = false →
    (s.path.station.carrier = true → s.path.station.sending = none →
      (∀ f rest, s.path.reportQueue = f :: rest → f.isOpen = false → exec .stationTransmit s = .next
        { s with path.reportQueue := rest
                 path.station.sending := some { bytes := s.reportBytes f, resetReply := f.resetReply } }) ∧
      (∀ f rest, s.path.reportQueue = f :: rest → f.isOpen = true → exec .stationTransmit s = .next s) ∧
      (∀ bs rest, s.path.reportQueue = [] → s.path.downlinkQueue = bs :: rest → exec .stationTransmit s = .next
        { s with path.downlinkQueue := rest, path.station.sending := some { bytes := bs, resetReply := false } }) ∧
      (s.path.reportQueue = [] → s.path.downlinkQueue = [] → exec .stationTransmit s = .next s)) ∧
    (s.path.station.carrier = false ∨ s.path.station.sending ≠ none → exec .stationTransmit s = .next s) ∧
    (s.path.line.carrier = true → s.path.line.sending = none →
      (∀ bs rest, s.path.uplinkQueue = bs :: rest → exec .lineTransmit s = .next
        { s with path.uplinkQueue := rest, path.line.sending := some { bytes := bs, resetReply := false } })) ∧
    (s.path.line.carrier = false ∨ s.path.line.sending ≠ none ∨ s.path.uplinkQueue = [] →
      exec .lineTransmit s = .next s)

/-! Batches, the claim, replies and attention. -/

/-- A waiting control frame's execution begins once no batch is in execution: one too short for its header is consumed
without reply, one with a bad header is answered by a single MALFORMED at position 0 with type 0, and any other opens a
batch at position 0 with its notes. -/
def Obligations.BatchBegins : Prop :=
  ∀ (s : State) (bs : List Byte) (waiting : List (List Byte)), s.resetAsserted = false →
    (s.control.batch ≠ none ∨ s.control.inputQueue = [] → exec .batch s = .next s) ∧
    (s.control.batch = none → s.control.inputQueue = bs :: waiting →
      ((framePayload bs).length < 5 → exec .batch s = .next { s with control.inputQueue := waiting }) ∧
      (5 ≤ (framePayload bs).length →
        (fieldAt (framePayload bs) 0 1 ≠ 1 ∨ fieldAt (framePayload bs) 3 1 = 0 ∨ 16 < fieldAt (framePayload bs) 3 1 →
          ∃ t, exec .batch s = .next t ∧
            t.apartFromReports = State.apartFromReports { s with control.inputQueue := waiting } ∧
            t.control.batch = none ∧
            (s.path.reportQueue.length < 8 → ∃ f, t.path.reportQueue = s.path.reportQueue.map (fun g =>
                { g with isOpen := false }) ++ [f] ∧ f.isReply = true ∧ f.isOpen = false ∧
              f.batch = BitVec.ofNat 16 (fieldAt (framePayload bs) 1 2) ∧
              f.dest = s.control.claim.elim (sourceAddr bs) Claim.player ∧
              f.notes = [.reply { position := 0, noteType := 0, code := .malformed, detail := none, payload := none }])) ∧
        (fieldAt (framePayload bs) 0 1 = 1 → 1 ≤ fieldAt (framePayload bs) 3 1 → fieldAt (framePayload bs) 3 1 ≤ 16 →
          ∀ notes, notes = cutNotes (fieldAt (framePayload bs) 3 1) ((framePayload bs).drop 5) →
          (∀ r ∈ notes.head?, r.readable = true) →
          exec .batch s = .next
            { s with
              control.inputQueue := waiting
              control.batch := some { source := sourceAddr bs, number := BitVec.ofNat 16 (fieldAt (framePayload bs) 1 2)
                                      position := 0, rest := notes, statusNotes := 0, reply := .notBegun } })))

/-- CLAIM sets the part address; the first one captures the source of the control frame as the player address, a later one
of the player keeps it; after it the top attention is compared with the last one sent. A part address with its group bit
set, or none, makes the note MALFORMED. -/
def Obligations.ClaimSetsTheAddresses : Prop :=
  ∀ (s : State) (b : Batch), s.resetAsserted = false → s.control.batch = some b →
    (s.control.claim = none ∨ s.control.claim.map Claim.player = some b.source) →
    (∀ a : Addr, a.getLsbD 40 = false →
      NoteDoes (.claim (some a)) s b { s with control.claim := some { part := a, player := b.source } } 1 .accepted none ∧
      (s.path.reportQueue.length < 7 → ∀ t, exec (.claim (some a)) s = .next t → t.control.lastTop = t.topAttention)) ∧
    (∀ a : Addr, a.getLsbD 40 = true → NoteDoes (.claim (some a)) s b s 1 .malformed none) ∧
    NoteDoes (.claim none) s b s 1 .malformed none

/-- Notes that are refused before the checks of R2, or at its first step, change nothing apart from reports: a type that
names no note of the part is answered UNKNOWN_NOTE whatever the claim; an unclaimed part answers NOT_CLAIMED to every note
but CLAIM; a claimed one answers CLAIMED_ELSEWHERE to every note of a frame from another source; a third status note of a
batch, and a note whose structure fails, is answered MALFORMED. -/
def Obligations.RefusedNotesChangeNothing : Prop :=
  ∀ (s : State) (b : Batch), s.resetAsserted = false → s.control.batch = some b →
    (∀ ty, NoteDoes (.unknownNote ty) s b s ty .unknownNote none) ∧
    (∀ c ty, noteTypeOf c = some ty →
      (s.control.claim = none → ty ≠ 1 → NoteDoes c s b s ty .notClaimed none) ∧
      (∀ k, s.control.claim = some k → b.source ≠ k.player → NoteDoes c s b s ty .claimedElsewhere none) ∧
      (s.control.claim.map Claim.player = some b.source →
        (2 ≤ b.statusNotes → ty = 3 ∨ ty = 4 ∨ ty = 10 → NoteDoes c s b s ty .malformed none) ∧
        (structureFails c = true → NoteDoes c s b s ty .malformed none)))

/-- Every note takes its place in the batch and is answered in it. Once it is answered the batch stands at the next position
with the notes behind it, or has ended when none is left; notes behind it that run past the end of the frame are answered
MALFORMED with it, each at its own position and under its type where the frame held one (log entry 4), and the batch ends. Its
reply, and theirs, join the batch's open reply frame in position order; as the batch's first they begin a frame behind those
queued, addressed as R171 gives; the frame closes when the batch ends. Where the frame could not be begun, no reply of the
batch is queued, and none of its further notes will be. A DEVICE RESET is meant here where it is refused; an accepted one,
which truncates its batch, has a statement of its own. -/
def Obligations.EachNoteIsTakenInTurn : Prop :=
  ∀ (s : State) (b : Batch) (c : Instr), s.resetAsserted = false → s.control.batch = some b →
    (noteTypeOf c ≠ none ∨ ∃ ty, c = .unknownNote ty) →
    (c = .deviceReset (some ()) → s.control.claim.map Claim.player ≠ some b.source) →
    ∃ (t : State) (r : Reply) (bad : List Reply), exec c s = .next t ∧ r.position = b.position ∧
      (noteTypeOf c = some r.noteType ∨ c = .unknownNote r.noteType) ∧ bad.length = b.unreadable.length ∧
      (∀ k m q, b.unreadable[k]? = some m → bad[k]? = some q → q.position = b.position + 1 + k ∧ q.code = .malformed ∧
        q.detail = none ∧ q.payload = none ∧ ∀ ty, m.noteType = some ty → q.noteType = ty) ∧
      (∀ m rest, b.rest.tail = m :: rest → m.readable = true → ∃ b', t.control.batch = some b' ∧
        b'.position = b.position + 1 ∧ b'.rest = b.rest.tail ∧ b'.source = b.source ∧ b'.number = b.number) ∧
      ((∀ m ∈ b.rest.tail, m.readable = false) → t.control.batch = none) ∧
      (b.reply = .begun → (∀ b', t.control.batch = some b' → b'.reply = .begun) ∧
        ∀ before f behind, s.path.reportQueue = before ++ f :: behind → f.isOpen = true → f.isReply = true →
        (∀ h ∈ before, h.isOpen = false) →
        ∃ further, t.path.reportQueue = before ++
          { f with notes := f.notes ++ (r :: bad).map OutNote.reply, isOpen := t.control.batch.isSome } :: further) ∧
      (b.reply = .notBegun → (∀ f ∈ s.path.reportQueue, f.isOpen = false) →
        (∃ before further, (∀ b', t.control.batch = some b' → b'.reply = .begun) ∧
          before.length < 8 ∧ s.path.reportQueue.length ≤ before.length ∧ t.path.reportQueue = before ++
            { isReply := true, batch := b.number, dest := t.replyDest b, isOpen := t.control.batch.isSome
              resetReply := false, notes := (r :: bad).map OutNote.reply } :: further) ∨
        (8 ≤ t.path.reportQueue.length ∧ (∀ b', t.control.batch = some b' → b'.reply = .dropped) ∧
          ∀ f ∈ t.path.reportQueue, ∀ q, OutNote.reply q ∈ f.notes →
            ∃ g ∈ s.path.reportQueue, OutNote.reply q ∈ g.notes)) ∧
      (b.reply = .dropped → (∀ b', t.control.batch = some b' → b'.reply = .dropped) ∧
        ∀ f ∈ t.path.reportQueue, ∀ q, OutNote.reply q ∈ f.notes → ∃ g ∈ s.path.reportQueue, OutNote.reply q ∈ g.notes)

/-- A SETUP clamps and sets each device value it gives, in the ranges of R132 and R172, with Mid ordered under High and Low
under Mid, and leaves the others, and is answered ACCEPTED_CLAMPED when a value is not the one given or held; then it removes
the flows a changed idle limit leaves idle, recomputes the shares when the margin changed, and examines the ask queue when the
maximum outstanding changed. LINK RESTART sets the link estimate to the link floor, clears both accumulators and recomputes the
shares; the interval totals and the slots stand. -/
def Obligations.SetupAndLinkRestartSetTheDevice : Prop :=
  (∀ (s : State) (b : Batch), s.Hears b →
    NoteDoes (.linkRestart (some ())) s b
      (State.recompute { s with meter.estimate := s.setup.linkFloor, meter.busyAcc := 0, meter.byteAcc := 0 })
      5 .accepted none) ∧
  ∀ (s : State) (b : Batch) (n : SetupNote) (u : Setup), s.Hears b →
    u.linkFloor = n.linkFloor.elim s.setup.linkFloor (clampTo 256 1000000) →
    u.margin = n.margin.elim s.setup.margin (clampTo 8 16) →
    u.maxOutstanding = n.maxOutstanding.elim s.setup.maxOutstanding (clampTo 1 8) →
    u.grantSpacing = n.grantSpacing.elim s.setup.grantSpacing (clampTo 0 255) →
    u.high = n.high.elim s.setup.high (clampTo 17 64) →
    u.mid = clampTo 17 u.high (n.mid.elim s.setup.mid (clampTo 17 64)) →
    u.low = clampTo 16 u.mid (n.low.elim s.setup.low (clampTo 16 64)) →
    u.wA = n.wA.elim s.setup.wA (clampTo 0 10000) → u.wB = n.wB.elim s.setup.wB (clampTo 0 20000) →
    u.wS = n.wS.elim s.setup.wS (clampTo 100 10000) → u.wM = n.wM.elim s.setup.wM (clampTo 100 10000) →
    u.idleLimit = n.idleLimit.elim s.setup.idleLimit (clampTo 10 600) →
    ∀ (trimmed shared examined : State) (clamped : Bool),
      clamped = decide (u ≠
        { linkFloor := n.linkFloor.getD s.setup.linkFloor, margin := n.margin.getD s.setup.margin
          maxOutstanding := n.maxOutstanding.getD s.setup.maxOutstanding
          grantSpacing := n.grantSpacing.getD s.setup.grantSpacing, high := n.high.getD s.setup.high
          mid := n.mid.getD s.setup.mid, low := n.low.getD s.setup.low, wA := n.wA.getD s.setup.wA
          wB := n.wB.getD s.setup.wB, wS := n.wS.getD s.setup.wS, wM := n.wM.getD s.setup.wM
          idleLimit := n.idleLimit.getD s.setup.idleLimit }) →
      trimmed = (if u.idleLimit = s.setup.idleLimit then { s with setup := u }
                 else State.removeIdle { s with setup := u } fun _ => true) →
      shared = (if u.margin = s.setup.margin then trimmed else trimmed.recompute) →
      examined = (if u.maxOutstanding = s.setup.maxOutstanding then shared else shared.examine) →
      NoteDoes (.setup (some n)) s b examined 2 (acceptedCode clamped) none

/-- The status notes reply with their payload and then act: DEVICE STATUS removes LINK_DOWN and LINK_UP from the device's
pending set, LINK SNAPSHOT opens the next interval of the link meter, and SESSION STATUS clears the session's causes but
LATCHED while its draw state is LATCHED and BLIND while its freshness state is BLIND or RECOVERING. What the payloads hold, and
that a cleared top attention is compared, are statements of their own. -/
def Obligations.StatusNotesReportAndClear : Prop :=
  ∀ (s : State) (b : Batch), s.Hears b → b.statusNotes < 2 →
    Answers (.deviceStatus (some ())) s b
      { s with control.devicePending := s.control.devicePending &&& ~~~(Cause.linkDown.bit ||| Cause.linkUp.bit) }
      { position := b.position, noteType := 3, code := .accepted, detail := none, payload := some s.devicePayload } ∧
    Answers (.linkSnapshot (some ())) s b
      { s with meter := { s.meter with intervalStart := s.time, downlinkBytes := 0, busyTime := 0, linkSamples := 0 } }
      { position := b.position, noteType := 4, code := .accepted, detail := none, payload := some s.snapshotPayload } ∧
    ∀ i : SessionIx, (s.session i).admin ≠ .vacant →
      Answers (.sessionStatus (some i.val)) s b
        (s.modSession i fun x => { x with causes := x.causes &&&
          ((if x.draw.phase = .latched then Cause.latched.bit else 0) |||
           (if x.buffer.freshness = .fresh then 0 else Cause.blind.bit)) })
        { position := b.position, noteType := 10, code := .accepted, detail := none
          payload := some (s.sessionPayload i) }

/-- The status payloads hold the values of R173, R174 and R176, in the order listed, in the widths and numbers of R169. Where
these rules leave an order open the model's stands (log entry 21), and so it does for the two carriers (37), a passed deadline
(32), the slots (33), the flow entries (36) and a follower's map beside its index (35). -/
def Obligations.StatusPayloadsHoldTheState : Prop :=
  ([Admin.vacant, .unprofiled, .primed, .streaming].map Admin.number = [0, 1, 2, 3] ∧
    [Source.pinned, .profile, .hint].map Source.number = [0, 1, 2] ∧
    [ArbClass.prime, .companion, .background].map classNumber = [0, 1, 2] ∧
    [DrawKind.unwatched, .start, .live].map drawKindNumber = [0, 1, 2] ∧
    [DrawPhase.off, .watching, .retryWait, .latched].map DrawPhase.number = [0, 1, 2, 3] ∧
    [Playback.stopped, .playing, .stalled].map playbackNumber = [0, 1, 2] ∧
    [Freshness.fresh, .blind, .recovering].map Freshness.number = [0, 1, 2] ∧
    [Transport.tcp, .udp].map transportNumber = [0, 1]) ∧
  ∀ s : State,
    s.devicePayload =
      (match s.control.claim with
       | none => [0, 0]
       | some c => [1, 1] ++ octets 6 c.player.toNat) ++
      flag s.path.line.carrier ++ flag s.path.station.carrier ++ octets 4 s.meter.estimate ++ octets 4 s.alloc.total ++
      octets 4 s.alloc.spare ++ flag s.alloc.starved ++ octets 1 (allSlots.filterMap s.slot).length ++
      octets 1 s.gate.askQueue.length ++ octets 4 s.path.downlinkDrops.toNat ++ octets 4 s.path.uplinkDrops.toNat ++
      octets 4 s.path.reportNotesDropped.toNat ++ octets 4 s.path.controlFramesDropped.toNat ++
      octets 8 s.path.otherBytes.toNat ++ octets 4 s.path.carrierDowns.toNat ++ octets 4 s.setup.linkFloor ++
      octets 1 s.setup.margin ++ octets 1 s.setup.maxOutstanding ++ octets 1 s.setup.grantSpacing ++
      octets 1 s.setup.high ++ octets 1 s.setup.mid ++ octets 1 s.setup.low ++ octets 4 s.setup.wA ++
      octets 4 s.setup.wB ++ octets 4 s.setup.wS ++ octets 4 s.setup.wM ++ octets 2 s.setup.idleLimit ++
      octets 2 s.control.devicePending.toNat ∧
    s.snapshotPayload =
      octets 4 s.meter.intervalStart.toNat ++ octets 4 s.time.toNat ++ octets 8 s.meter.downlinkBytes.toNat ++
      octets 4 s.meter.busyTime.toNat ++ octets 4 s.meter.linkSamples.toNat ++ octets 4 s.meter.estimate ∧
    ∀ (i : SessionIx) (x : Session) (time : Time → List Byte) (count : Count32 → List Byte) (small rate : Nat → List Byte)
      (rung : Rung → List Byte),
      x = s.session i → (∀ t, time t = octets 4 t.toNat) → (∀ c, count c = octets 4 c.toNat) →
      (∀ v, small v = octets 1 v) → (∀ v, rate v = octets 4 v) → (∀ r, rung r = octets 4 r.bitrate ++ flag r.skip) →
      s.sessionPayload i =
        small x.admin.number ++
        present x.profile (fun p =>
          small p.weight ++ small (classNumber p.cls) ++ present p.uplinkPriority small ++ rate p.bufferTarget ++
          rate p.lowGuard ++ rate p.panicLevel ++ rate p.upHold ++ present p.freshnessLimit rate ++
          small p.stallThreshold ++ small p.outstandingLimit ++ small (drawKindNumber p.drawKind) ++
          small p.retryLimit ++ rate p.retryInterval ++
          small ((if p.pins.ceiling then 1 else 0) + (if p.pins.target then 2 else 0) + (if p.pins.speed then 4 else 0)) ++
          small p.initialSpeed ++ small p.defaultCeiling) ++
        (present x.eff (fun e => small e.ceiling) ++ present x.eff (fun e => small e.ceilingSource.number) ++
         present x.eff (fun e => rate e.target) ++ present x.eff (fun e => small e.targetSource.number) ++
         present x.eff (fun e => small e.speed) ++ present x.eff (fun e => small e.speedSource.number) ++
         present x.eff (fun e => rate e.lowGuard) ++ present x.eff (fun e => rate e.panicLevel)) ++
        (present x.staging.count small ++ counted x.staging.rungs.toList (fun r => present r rung) ++
         present x.staging.fallback small ++
         present x.published (fun l => small l.rungs.length ++ counted l.rungs rung ++ small l.fallback) ++
         small x.generation.toNat) ++
        present x.estimates (fun e => rate e.fast) ++ present x.estimates (fun e => rate e.slow) ++
        (small x.buffer.freshness.number ++ present x.buffer.freshTimer time ++
         small (playbackNumber x.buffer.playback) ++ rate x.buffer.anchor ++ time x.buffer.anchorTime ++
         rate (x.level s.time) ++ rate (s.projection i)) ++
        (present x.shares (fun h => rate h.share) ++ present x.shares (fun h => rate h.floorNeed) ++
         present x.shares (fun h => rate h.capNeed) ++ flag s.alloc.starved) ++
        (present x.rung small ++ present x.upHold time ++ count x.stats.rungMovesUp ++ count x.stats.rungMovesDown) ++
        (present (s.gate.askQueue.find? fun a => decide (a.session = i)) (fun a =>
           octets 4 a.segment.toNat ++ rate a.duration ++ flag a.flush ++ time a.arrival) ++
         counted (allSlots.filter fun k => (s.slot k).any fun y => decide (y.session = i)) (fun k =>
           match s.slot k with
           | none => []
           | some y => small k.val ++ small y.tag.toNat ++ octets 4 y.segment.toNat ++
               small (if y.phase = .granted then 1 else 2) ++ small y.rung ++ small y.generation.toNat ++
               present y.deadline time ++ time y.expiry ++ flag y.missed ++ rate y.bytes ++
               (match y.phase with
                | .granted => [0, 0]
                | .receiving first last => 1 :: time first ++ 1 :: time last)) ++
         small x.nextTag.toNat ++ counted x.expiredTags (fun t => small t.toNat) ++ small x.missRun ++
         present x.drainTimer time) ++
        (small x.draw.phase.number ++ present x.draw.cap small ++ small x.draw.retriesUsed ++
         present x.draw.retryTimer time ++ rate x.draw.stageClock ++ rate x.draw.overTime ++ small x.draw.quietRun ++
         flag x.draw.openMark ++ present x.draw.lastWindow (fun w => time w.windowEnd) ++
         present x.draw.lastWindow (fun w => rate w.draw) ++ present x.draw.lastWindow (fun w => flag w.contended)) ++
        (match x.role with
         | .independent => [0]
         | .leader fs => 1 :: counted fs (fun e => small e.index.val ++ counted e.map.toList small ++ flag e.isDefault)
         | .follower l => 2 :: small l.val) ++
        counted (s.flows.filter fun f => decide (f.session = i)) (fun f =>
          small (transportNumber f.key.transport) ++
          (match f.key.remote with
           | .v4 a => 0 :: octets 4 a.toNat
           | .v6 a => 1 :: octets 16 a.toNat) ++
          octets 2 f.key.remotePort.toNat ++ octets 2 f.key.localPort.toNat ++ small f.session.val ++ time f.bindTime ++
          present f.lastHit time ++ count f.hits) ++
        small (s.flows.filter fun f => decide (f.session = i)).length ++
        (count x.stats.segmentsCompleted ++ count x.stats.shortFetches ++ count x.stats.bytesAttributed ++
         count x.stats.unsolicitedBytes ++ count x.stats.deadlineMisses ++ count x.stats.expiries ++
         count x.stats.stalls ++ count x.stats.overdraws ++ count x.stats.rungMovesUp ++ count x.stats.rungMovesDown) ++
        octets 2 x.causes.toNat

/-- DEVICE RESET ends its batch, discards the control frames that wait and makes the part reset-pending: the reset waits for
the reply frame, or is due at once when the station carrier is down or the reply frame could not be begun (that it is due then,
and taken at a step of its own, is the model's choice: log entry 16). Its reply begins the reply frame, or joins the open one,
which closes and is marked as the one the reset waits for; or it is dropped and counted with the others of its batch. -/
def Obligations.DeviceResetPends : Prop :=
  ∀ (s : State) (b : Batch) (r : OutNote), s.Hears b →
    r = .reply { position := b.position, noteType := 6, code := .accepted, detail := none, payload := none } →
    ∃ t, exec (.deviceReset (some ())) s = .next t ∧ t.control.batch = none ∧
      t.apartFromReports = State.apartFromReports
        { s with control.inputQueue := []
                 control.resetPhase :=
                   if s.path.station.carrier = true ∧
                      (b.reply = .begun ∨ b.reply = .notBegun ∧ s.path.reportQueue.length < 8) then .awaitingReply
                   else .due } ∧
      (b.reply = .notBegun → s.path.reportQueue.length < 8 → ∃ f, t.path.reportQueue.getLast? = some f ∧
        f.isReply = true ∧ f.batch = b.number ∧ f.isOpen = false ∧ f.resetReply = true ∧ f.notes = [r]) ∧
      (b.reply = .begun → ∀ before f behind, s.path.reportQueue = before ++ f :: behind → f.isOpen = true →
        (∀ h ∈ before, h.isOpen = false) → (∀ h ∈ behind, h.isOpen = false) →
        t.path.reportQueue = before ++
          { f with notes := f.notes ++ [r], isOpen := false, resetReply := true } :: behind) ∧
      (b.reply = .dropped ∨ b.reply = .notBegun ∧ 8 ≤ s.path.reportQueue.length →
        t.path.reportNotesDropped = s.path.reportNotesDropped + 1 ∧
        ((∀ h ∈ s.path.reportQueue, h.isOpen = false) → t.path.reportQueue = s.path.reportQueue))

/-- The top attention is the pending pair of highest rank, and among equal causes the one of the lowest session. The comparison
with the last one sent: none becomes none, an equal one changes nothing, and a different one queues an ATTENTION with its
cause, its session and that session's or the device's pending causes and becomes the last sent, unless the report queue drops
the note or no player address is there to send it to. -/
def Obligations.TopAttentionIsCompared : Prop :=
  ∀ s : State,
    (∀ (c : Cause) (i : SessionIx), s.topAttention = some (c, i) ↔
      (s.HasPending c i ∧ ∀ d j, s.HasPending d j → c.number < d.number ∨ (c = d ∧ i ≤ j))) ∧
    (s.topAttention = none → s.compareAttention = { s with control.lastTop := none }) ∧
    ∀ c i, s.topAttention = some (c, i) →
      (s.control.lastTop = some (c, i) → s.compareAttention = s) ∧
      (s.control.lastTop ≠ some (c, i) →
        (s.control.claim = none → s.compareAttention = s) ∧
        (s.control.claim ≠ none →
          (s.path.reportQueue.length < 8 →
            s.compareAttention.apartFromReports = s.apartFromReports ∧
            s.compareAttention.control.lastTop = some (c, i) ∧
            s.compareAttention.path.reportNotesDropped = s.path.reportNotesDropped ∧
            ∃ f, s.compareAttention.path.reportQueue.getLast? = some f ∧ f.isReply = false ∧
              f.notes.getLast? = some (.attention
                { cause := c, session := i,
                  pending := if c.ofDevice then s.control.devicePending else (s.session i).causes })) ∧
          (8 ≤ s.path.reportQueue.length → (∀ f, s.path.reportQueue.getLast? = some f → f.takesOriginated = false) →
            s.compareAttention = { s with path.reportNotesDropped := s.path.reportNotesDropped + 1 })))

/-- Every command that changes a pending set, but for the resets of the whole part, is followed by the comparison of the top
attention with the last one sent: a carrier event, a note that clears or raises causes, a freshness, retry or slot timer, a
draw window, an idle flow. With no top attention behind it the last sent is none; a top attention is then the last sent, when a
player address is held and the report queue has room for its ATTENTION. (That the comparison follows an event only when it
changed a set is the model's reading: log entry 8.) -/
def Obligations.ChangedCausesAreAnnounced : Prop :=
  ∀ (c : Instr) (s t : State), s.resetAsserted = false → c ≠ .powerOn → c ≠ .resetInput → c ≠ .deviceResetTaken →
    exec c s = .next t →
    (t.control.devicePending ≠ s.control.devicePending ∨ ∃ i, (t.session i).causes ≠ (s.session i).causes) →
    (t.topAttention = none → t.control.lastTop = none) ∧
    (∀ x, t.topAttention = some x → t.control.claim ≠ none → t.path.reportQueue.length < 8 →
      t.control.lastTop = some x ∧
      (s.control.lastTop ≠ some x → ∃ f ∈ t.path.reportQueue, f.isReply = false ∧ ∃ a, OutNote.attention a ∈ f.notes ∧
        a.cause = x.1 ∧ a.session = x.2 ∧
        a.pending = if x.1.ofDevice then t.control.devicePending else (t.session x.2).causes))

/-! Sessions, profiles and ladders. -/

/-- A note that names one session is refused BAD_SESSION for an index above 15, and by R3's table for the session's admin
state; a refused note changes nothing apart from reports. -/
def Obligations.AdmissionByAdminState : Prop :=
  ∀ (s : State) (b : Batch) (c : Instr) (ty : Byte) (n : Nat), s.Hears b → b.statusNotes < 2 →
    noteTypeOf c = some ty → namedSession c = some n →
    (15 < n → NoteDoes c s b s ty .badSession none) ∧
    (∀ (i : SessionIx) (code : ReplyCode), n = i.val → refusalOf c (s.session i).admin = some code →
      NoteDoes c s b s ty code none)

/-- A session leaves STREAMING only by its own SESSION RESET or CLOSE, or by a device-level reset. -/
def Obligations.StreamingEndsOnlyByReset : Prop :=
  ∀ (c : Instr) (s t : State) (i : SessionIx), exec c s = .next t → (s.session i).admin = .streaming →
    (t.session i).admin = .streaming ∨ c = .sessionReset (some i.val) ∨ c = .closeSession (some i.val) ∨
    c = .powerOn ∨ c = .resetInput ∨ c = .deviceResetTaken

/-- OPEN on a VACANT session sets every field of its record as R5's table gives and changes nothing else; the clear window
quantities are the model's (log entry 26). -/
def Obligations.OpenSetsTheRecord : Prop :=
  ∀ (s : State) (b : Batch) (i : SessionIx), s.Hears b → (s.session i).admin = .vacant →
    NoteDoes (.openSession (some i.val)) s b
      (s.modSession i fun _ =>
        { admin := .unprofiled, profile := none, eff := none
          staging := { count := none, rungs := Vector.replicate 12 none, fallback := none }, published := none
          generation := 0, estimates := none
          buffer := { playback := .stopped, anchor := 0, anchorTime := s.time, emptyPoint := none, freshness := .fresh
                      freshTimer := none }
          shares := none, rung := none, upHold := none, nextTag := 0, expiredTags := [], missRun := 0, drainTimer := none
          draw := { phase := .off, cap := none, retriesUsed := 0, retryTimer := none, stageClock := 0, overTime := 0
                    quietRun := 0, openMark := false, penaltyMark := false, entryTime := none, settled := false
                    lastWindow := none, windowBytes := 0, receivingMark := false, nextBytes := 0, nextMark := false }
          role := .independent, causes := 0
          stats := { segmentsCompleted := 0, shortFetches := 0, bytesAttributed := 0, unsolicitedBytes := 0
                     deadlineMisses := 0, expiries := 0, stalls := 0, overdraws := 0, rungMovesUp := 0
                     rungMovesDown := 0 } })
      7 .accepted none

/-- SESSION RESET and CLOSE: the session's tether is dissolved or left, its slots are released and its ask is removed, its
record takes R16's values (the window quantities are kept: log entry 26), the shares are recomputed if it was a contender or in
a tether, and the queue is examined if a slot was freed (and not for the other changes: log entry 38). CLOSE removes the
session's flows as well and leaves it VACANT (what a VACANT record holds is the model's: log entry 6). A session in no tether
dissolves nothing; a follower leaves its leader's list, whose other followers keep their order, and a leader whose list becomes
empty leads no more; what a leader's reset does to its followers is stated with UNTETHER. -/
def Obligations.ResetAndCloseClearTheSession : Prop :=
  (∀ (s start : State) (b : Batch) (i : SessionIx) (emptied shared examined : State) (admin : Admin), s.Hears b →
    (s.session i).admin ≠ .vacant →
    emptied = (((start.dissolve i).releaseSlots i).removeAsk i).modSession i
      (fun x => Session.afterReset x admin s.time) →
    shared = (if (s.session i).isContender = true ∨ (s.session i).role ≠ .independent then emptied.recompute else emptied) →
    examined = (if ∃ k x, s.slot k = some x ∧ x.session = i then shared.examine else shared) →
    (admin = .unprofiled → start = s → NoteDoes (.sessionReset (some i.val)) s b examined 8 .accepted none) ∧
    (admin = .vacant → start = { s with flows := s.flows.filter fun e => decide (e.session ≠ i) } →
      NoteDoes (.closeSession (some i.val)) s b examined 9 .accepted none)) ∧
  ∀ (s : State) (i : SessionIx),
    ((s.session i).role = .independent → s.dissolve i = s) ∧
    (∀ l fs others, (s.session i).role = .follower l → (s.session l).role = .leader fs →
      others = fs.filter (fun e => decide (e.index ≠ i)) →
      s.dissolve i = s.modSession l fun x =>
        { x with role := if others = [] then .independent else .leader others }) ∧
    s.removeAsk i = { s with gate.askQueue := s.gate.askQueue.filter fun a => decide (a.session ≠ i) } ∧
    (s.releaseSlots i).sessions = s.sessions ∧ (s.releaseSlots i).gate.askQueue = s.gate.askQueue ∧
    (∀ k, (s.releaseSlots i).slot k = if ∃ x, s.slot k = some x ∧ x.session = i then none else s.slot k)

/-- The profile a PROFILE builds, field by field: a field given in the note is clamped to its range, with the low guard
clamped under the target and the panic level under the low guard, and an absent one takes its default; an uplink priority or
freshness limit given as absent is absent. The note is answered ACCEPTED_CLAMPED when some field it gives is not held as given,
a lowered default not counting. -/
def Obligations.ProfileFieldsAreClampedOrDefault : Prop :=
  ∀ (n : ProfileNote) (p : Profile), p = n.build →
    (∀ v, n.weight = some v → p.weight = clampTo 1 15 v) ∧ (n.weight = none → p.weight = 4) ∧
    p.cls = n.cls.getD .companion ∧
    (∀ v, n.uplinkPriority = .value v → p.uplinkPriority = some (clampTo 0 7 v)) ∧
    (n.uplinkPriority = .omitted ∨ n.uplinkPriority = .absent → p.uplinkPriority = none) ∧
    (∀ v, n.bufferTarget = some v → p.bufferTarget = clampTo 2000 120000 v) ∧
    (n.bufferTarget = none → p.bufferTarget = 30000) ∧
    (∀ v, n.lowGuard = some v → p.lowGuard = clampTo 500 p.bufferTarget v) ∧
    (n.lowGuard = none → p.lowGuard = min 10000 p.bufferTarget) ∧
    (∀ v, n.panicLevel = some v → p.panicLevel = clampTo 0 p.lowGuard v) ∧
    (n.panicLevel = none → p.panicLevel = min 4000 p.lowGuard) ∧
    p.panicLevel ≤ p.lowGuard ∧ p.lowGuard ≤ p.bufferTarget ∧
    (∀ v, n.upHold = some v → p.upHold = clampTo 0 60000 v) ∧ (n.upHold = none → p.upHold = 8000) ∧
    (∀ v, n.freshnessLimit = .value v → p.freshnessLimit = some (clampTo 500 30000 v)) ∧
    (n.freshnessLimit = .absent → p.freshnessLimit = none) ∧
    (n.freshnessLimit = .omitted → p.freshnessLimit = some 3000) ∧
    (∀ v, n.stallThreshold = some v → p.stallThreshold = clampTo 0 7 v) ∧
    (n.stallThreshold = none → p.stallThreshold = 2) ∧
    (∀ v, n.outstandingLimit = some v → p.outstandingLimit = clampTo 1 2 v) ∧
    (n.outstandingLimit = none → p.outstandingLimit = 1) ∧
    p.drawKind = n.drawKind.getD .start ∧
    (∀ v, n.retryLimit = some v → p.retryLimit = clampTo 0 15 v) ∧ (n.retryLimit = none → p.retryLimit = 3) ∧
    (∀ v, n.retryInterval = some v → p.retryInterval = clampTo 1000 120000 v) ∧
    (n.retryInterval = none → p.retryInterval = 20000) ∧
    p.pins = n.pins.getD { ceiling := false, target := false, speed := false } ∧
    (∀ v, n.initialSpeed = some v → p.initialSpeed = clampTo 4 16 v) ∧ (n.initialSpeed = none → p.initialSpeed = 8) ∧
    (∀ v, n.defaultCeiling = some v → p.defaultCeiling = clampTo 0 11 v) ∧ (n.defaultCeiling = none → p.defaultCeiling = 11) ∧
    (n.clamped = false ↔
      (∀ v, n.weight = some v → p.weight = v) ∧ (∀ v, n.uplinkPriority = .value v → p.uplinkPriority = some v) ∧
      (∀ v, n.bufferTarget = some v → p.bufferTarget = v) ∧ (∀ v, n.lowGuard = some v → p.lowGuard = v) ∧
      (∀ v, n.panicLevel = some v → p.panicLevel = v) ∧ (∀ v, n.upHold = some v → p.upHold = v) ∧
      (∀ v, n.freshnessLimit = .value v → p.freshnessLimit = some v) ∧
      (∀ v, n.stallThreshold = some v → p.stallThreshold = v) ∧
      (∀ v, n.outstandingLimit = some v → p.outstandingLimit = v) ∧ (∀ v, n.retryLimit = some v → p.retryLimit = v) ∧
      (∀ v, n.retryInterval = some v → p.retryInterval = v) ∧ (∀ v, n.initialSpeed = some v → p.initialSpeed = v) ∧
      (∀ v, n.defaultCeiling = some v → p.defaultCeiling = v))

/-- PROFILE on an UNPROFILED session, which is STOPPED and has no effective values: it is PRIMED with the profile, the
effective values and guards that the profile gives, its anchor is taken again at the time of the note, its draw state is
WATCHING for START and LIVE with the open mark set for START, and OFF for NONE; then the queue is examined (that a PROFILE which
primes is a change of the target and speed, of R112's list, is log entry 27, DEDUCED). -/
def Obligations.ProfilePrimesTheSession : Prop :=
  ∀ (s : State) (b : Batch) (n : ProfileNote) (i : SessionIx) (p : Profile), s.Hears b → n.session = i.val →
    (s.session i).admin = .unprofiled → (s.session i).role = .independent → (s.session i).eff = none →
    (s.session i).buffer.playback = .stopped → p = n.build →
    NoteDoes (.profile (some n)) s b
      (State.examine (s.modSession i fun x => { x with
        admin := .primed, profile := some p
        eff := some { ceiling := p.defaultCeiling, ceilingSource := if p.pins.ceiling then .pinned else .profile
                      target := p.bufferTarget, targetSource := if p.pins.target then .pinned else .profile
                      speed := p.initialSpeed, speedSource := if p.pins.speed then .pinned else .profile
                      lowGuard := p.lowGuard, panicLevel := p.panicLevel }
        buffer := { x.buffer with anchorTime := s.time, emptyPoint := none }
        draw :=
          if p.drawKind = .unwatched then { x.draw with phase := .off, openMark := false }
          else { x.draw with phase := .watching, openMark := decide (p.drawKind = .start), entryTime := some s.time
                             settled := false } }))
      13 (acceptedCode n.clamped) none

/-- PROFILE on a PRIMED or STREAMING session: a follower is refused TETHERED. Any other takes the profile and the effective
values it gives, every hint discarded; a changed speed re-anchors its buffer model first; its freshness supervision answers the
new limit (R11); its draw state answers the draw kind and the retry limit by R10's four cases, with LATCHED raised when
RETRY_WAIT ends so (that retries used then falls to the limit too is the model's: log entry 10); every other field is kept.
Then its rung is lowered where the new ceiling asks for it, the profile is copied to its followers in list order, the shares
are recomputed once when a contender's weight, speed, ceiling or cap changed, and the queue is examined once when the target,
guards, speed or outstanding limit, or a follower's target or guards, changed. -/
def Obligations.ReprofileRenewsTheSession : Prop :=
  ∀ (s : State) (b : Batch) (n : ProfileNote) (i : SessionIx) (p old : Profile) (e : Effective)
    (x : Session) (copied shared examined : State), s.Hears b →
    n.session = i.val → (s.session i).admin = .primed ∨ (s.session i).admin = .streaming →
    (s.session i).profile = some old → (s.session i).eff = some e → p = n.build → x = s.session i →
    (∀ l, x.role = .follower l → NoteDoes (.profile (some n)) s b s 13 .tethered none) ∧
    ((∀ l, x.role ≠ .follower l) →
      copied = x.followers.foldl (fun t f => t.modSession f.index fun y => y.afterCopy p s.time)
        ((s.modSession i fun y => y.afterProfile old p e s.time).lowerToAllowed i) →
      shared = (if x.admin = .streaming ∧ (p.weight ≠ old.weight ∨ p.initialSpeed ≠ e.speed ∨ p.defaultCeiling ≠ e.ceiling ∨
                    (x.draw.afterProfile old p s.time).cap ≠ x.draw.cap) then copied.recompute else copied) →
      examined = (if (p.bufferTarget, p.lowGuard, p.panicLevel) ≠ (e.target, e.lowGuard, e.panicLevel) ∨
                    p.initialSpeed ≠ e.speed ∨ p.outstandingLimit ≠ old.outstandingLimit ∨
                    (∃ f ∈ x.followers,
                      ((copied.session f.index).eff.map fun g => (g.target, g.lowGuard, g.panicLevel)) ≠
                      (s.session f.index).eff.map fun g => (g.target, g.lowGuard, g.panicLevel)) then shared.examine
                  else shared) →
      NoteDoes (.profile (some n)) s b examined 13 (acceptedCode n.clamped) none)

/-- When the allowed set of a STREAMING session no longer holds its current rung, the rung is lowered to the highest allowed
rung at or below it, one move down is counted, no up-hold is restarted, and its STREAMING followers are derived from it; a rung
that is allowed stays. The rung that a not-FRESH verdict and a resync fall back to is the highest allowed one at or below the
fallback index. -/
def Obligations.LimitsLowerTheRung : Prop :=
  ∀ (s : State) (i : SessionIx) (l : Ladder) (e : Effective) (r low : Nat),
    (s.session i).admin = .streaming → (s.session i).published = some l → (s.session i).eff = some e →
    (s.session i).rung = some r → l.IsLowest low →
    IsHighest l.rungs.length (fun k => l.Allows low e.ceiling (s.session i).draw.cap k ∧ k ≤ l.fallback) low
      (s.session i).fallbackRung ∧
    (l.Allows low e.ceiling (s.session i).draw.cap r → s.lowerToAllowed i = s) ∧
    (low ≤ r → ¬ l.Allows low e.ceiling (s.session i).draw.cap r →
      ((s.session i).followers.map FollowerEntry.index).Nodup → (∀ f ∈ (s.session i).followers, f.index ≠ i) →
      ∃ k, IsHighest l.rungs.length (fun k => l.Allows low e.ceiling (s.session i).draw.cap k ∧ k ≤ r) low k ∧ k < r ∧
        (s.modSession i fun x => { x with rung := some k, stats.rungMovesDown := x.stats.rungMovesDown + 1 }).FollowersDerived
          (s.lowerToAllowed i) (s.session i).followers k)

/-- LADDER LOAD without its publish flag writes its records, clamped, into consecutive staging positions, and its rung count
and fallback index where it gives them, and changes nothing else. -/
def Obligations.LadderLoadStages : Prop :=
  ∀ (s : State) (b : Batch) (n : LadderNote) (i : SessionIx) (g h : Staging), s.Hears b → n.session = i.val →
    (s.session i).admin ≠ .vacant → n.publish = false → 1 ≤ n.records.length → n.first + n.records.length ≤ 12 →
    g = (s.session i).staging →
    (∀ k, k < 12 → h.rung? k =
      (if n.first ≤ k ∧ k < n.first + n.records.length then
         (n.records[k - n.first]?).map fun r => { bitrate := clampTo 100 65000 r.bitrate, skip := r.skip }
       else g.rung? k)) →
    h.count = n.rungCount.elim g.count (fun c => some (clampTo 1 12 c)) →
    h.fallback = n.fallback.elim g.fallback (fun f => some (clampTo 0 11 f)) →
    ∀ clamped, (clamped = false ↔ (∀ r ∈ n.records, 100 ≤ r.bitrate ∧ r.bitrate ≤ 65000) ∧
        (∀ c, n.rungCount = some c → 1 ≤ c ∧ c ≤ 12) ∧ (∀ f, n.fallback = some f → f ≤ 11)) →
    NoteDoes (.ladderLoad (some n)) s b (s.modSession i fun x => { x with staging := h }) 14 (acceptedCode clamped) none

/-- A publish answers LADDER_INVALID with the number of the first of the five checks that the staging ladder, as the note's
writes leave it, fails; the writes stand and nothing else changes. -/
def Obligations.PublishFailsAtTheFirstCheck : Prop :=
  ∀ (s : State) (b : Batch) (n : LadderNote) (i : SessionIx) (k : Nat), s.Hears b → n.session = i.val →
    (s.session i).admin = .primed ∨ (s.session i).admin = .streaming → n.publish = true → n.malformed = false →
    (∀ j, j < k → ((s.session i).staging.load n).Passes j) → ¬ ((s.session i).staging.load n).Passes k →
    NoteDoes (.ladderLoad (some n)) s b
      (s.modSession i fun x => { x with staging := x.staging.load n }) 14 .ladderInvalid (some k)

/-- The publish that takes an independent PRIMED session to STREAMING: the staged ladder is published, the generation
advances, the current rung is the lowest rung that is not skipped, the up-hold is restarted, a WATCHING session enters
supervision, and the shares are recomputed. -/
def Obligations.FirstPublishStartsStreaming : Prop :=
  ∀ (s : State) (b : Batch) (n : LadderNote) (i : SessionIx) (g : Staging) (l : Ladder) (p : Profile) (low : Nat),
    s.Hears b → n.session = i.val → n.publish = true → n.malformed = false → g = (s.session i).staging.load n →
    (s.session i).admin = .primed → (s.session i).profile = some p → (s.session i).role = .independent →
    (s.session i).rung = none → g.count = some l.rungs.length → g.fallback = some l.fallback →
    (∀ k, k < l.rungs.length → g.rung? k = l.rungs[k]?) → (∀ j, g.Passes j) →
    low < l.rungs.length → l.usable low = true → (∀ k, k < low → l.usable k = false) →
    NoteDoes (.ladderLoad (some n)) s b
      (State.recompute (s.modSession i fun x => { x with
        staging := g, published := some l, generation := x.generation + 1, admin := .streaming, rung := some low
        upHold := if p.upHold = 0 then none else some (later s.time p.upHold)
        draw := if x.draw.phase = .watching then { x.draw with entryTime := some s.time, settled := false } else x.draw }))
      14 (acceptedCode n.clamped) none

/-- A republish on an independent STREAMING session carries the draw cap and the current rung by bitrate: the cap becomes the
highest rung not skipped, at or below the ceiling, whose bitrate is at or below the old cap's; the rung becomes the highest
rung allowed under the new ladder, the ceiling and the carried cap whose bitrate is at or below the old rung's; each becomes
the lowest rung not skipped when none qualifies. A move is counted by index, the up-hold is restarted and the shares are
recomputed. -/
def Obligations.RepublishCarriesRungsByBitrate : Prop :=
  ∀ (s : State) (b : Batch) (n : LadderNote) (i : SessionIx) (g : Staging) (l old : Ladder) (p : Profile) (e : Effective)
    (r low new : Nat) (cap : Option Nat),
    s.Hears b → n.session = i.val → n.publish = true → n.malformed = false → g = (s.session i).staging.load n →
    (s.session i).admin = .streaming → (s.session i).profile = some p → (s.session i).eff = some e →
    (s.session i).role = .independent → (s.session i).published = some old → (s.session i).rung = some r →
    g.count = some l.rungs.length → g.fallback = some l.fallback →
    (∀ k, k < l.rungs.length → g.rung? k = l.rungs[k]?) → (∀ j, g.Passes j) →
    low < l.rungs.length → l.usable low = true → (∀ k, k < low → l.usable k = false) →
    ((s.session i).draw.cap = none → cap = none) →
    (∀ c, (s.session i).draw.cap = some c → ∃ d, cap = some d ∧
      IsHighest l.rungs.length (fun k => l.usable k = true ∧ k ≤ e.ceiling ∧ l.bitrate k ≤ old.bitrate c) low d) →
    IsHighest l.rungs.length (fun k => l.usable k = true ∧ (k = low ∨ (k ≤ e.ceiling ∧ ∀ d, cap = some d → k ≤ d)) ∧
      l.bitrate k ≤ old.bitrate r) low new →
    NoteDoes (.ladderLoad (some n)) s b
      (State.recompute (s.modSession i fun x => { x with
        staging := g, published := some l, generation := x.generation + 1, rung := some new, draw.cap := cap
        upHold := if p.upHold = 0 then none else some (later s.time p.upHold)
        stats.rungMovesUp := if r < new then x.stats.rungMovesUp + 1 else x.stats.rungMovesUp
        stats.rungMovesDown := if new < r then x.stats.rungMovesDown + 1 else x.stats.rungMovesDown }))
      14 (acceptedCode n.clamped) none

/-- A publish in a tether. A leader's takes it to STREAMING at its lowest rung that is not skipped, in supervision while it is
WATCHING, or carries its cap and rung by bitrate; each STREAMING follower is then derived from that rung, and the leader's
up-hold is restarted. A follower's publish forms its default map again from its own rung count and leaves a given one; it is
derived through the map while its leader holds a rung; while the leader holds none it starts at its lowest rung or is carried by
bitrate; it enters no supervision. Its own up-hold is restarted whatever its leader's state (R31; that R31 prevails over R150 is
the model's choice: log entry 34). The shares are recomputed once in each case. -/
def Obligations.PublishInATether : Prop :=
  ∀ (s : State) (b : Batch) (n : LadderNote) (i : SessionIx) (g : Staging) (l : Ladder) (low : Nat) (p : Profile)
    (e : Effective) (hold : Option Time), s.Publishes b n i g l low →
    (s.session i).profile = some p → (s.session i).eff = some e →
    hold = (if p.upHold = 0 then none else some (later s.time p.upHold)) →
    (∀ fs, (s.session i).role = .leader fs → (fs.map FollowerEntry.index).Nodup → (∀ f ∈ fs, f.index ≠ i) →
      ((s.session i).admin = .primed → (s.session i).rung = none → ∃ u,
        NoteDoes (.ladderLoad (some n)) s b u.recompute 14 (acceptedCode n.clamped) none ∧
        (s.modSession i fun x => { x with
          staging := g, published := some l, generation := x.generation + 1, admin := .streaming, rung := some low
          upHold := hold
          draw := if x.draw.phase = .watching then { x.draw with entryTime := some s.time, settled := false }
                  else x.draw }).FollowersDerived u fs low) ∧
      (∀ old r new cap, (s.session i).admin = .streaming → (s.session i).published = some old →
        (s.session i).rung = some r → ((s.session i).draw.cap = none → cap = none) →
        (∀ c, (s.session i).draw.cap = some c → ∃ d, cap = some d ∧
          IsHighest l.rungs.length (fun k => l.usable k = true ∧ k ≤ e.ceiling ∧ l.bitrate k ≤ old.bitrate c) low d) →
        IsHighest l.rungs.length (fun k => l.Allows low e.ceiling cap k ∧ l.bitrate k ≤ old.bitrate r) low new →
        ∃ u, NoteDoes (.ladderLoad (some n)) s b u.recompute 14 (acceptedCode n.clamped) none ∧
          (s.modSession i fun x => { x.withRung new with
            staging := g, published := some l, generation := x.generation + 1, upHold := hold
            draw.cap := cap }).FollowersDerived u fs new)) ∧
    (∀ m fs f f' new, (s.session i).role = .follower m → (s.session m).role = .leader fs → m ≠ i →
      (fs.map FollowerEntry.index).Nodup → f ∈ fs → f.index = i → f'.index = i → f'.isDefault = f.isDefault →
      (∀ k (h : k < 12), f'.map[k] = if f.isDefault then min k (l.rungs.length - 1) else f.map[k]) →
      ((s.session i).admin = .primed ∨ (s.session i).admin = .streaming) →
      (∀ r, (s.session m).rung = some r →
        IsHighest l.rungs.length (fun k => l.Allows low e.ceiling none k ∧ k ≤ (f'.map[r]?).getD 0) low new) →
      ((s.session m).rung = none → (s.session i).admin = .primed → new = low) →
      ((s.session m).rung = none → (s.session i).admin = .streaming → (s.session i).draw.cap = none ∧
        ∃ old r, (s.session i).published = some old ∧ (s.session i).rung = some r ∧
          IsHighest l.rungs.length (fun k => l.Allows low e.ceiling none k ∧ l.bitrate k ≤ old.bitrate r) low new) →
      ((s.session i).admin = .primed → (s.session i).rung = none) →
      NoteDoes (.ladderLoad (some n)) s b
        (State.recompute ((s.modSession m fun y =>
            { y with role := .leader (fs.map fun q => if q.index = i then f' else q) }).modSession i fun x =>
          { x.withRung new with
            staging := g, published := some l, generation := x.generation + 1, admin := .streaming, upHold := hold }))
        14 (acceptedCode n.clamped) none)

/-! Tethers and the draw state's REARM. -/

/-- An accepted TETHER: the follower joins the end of the leader's list with its map, given or by default; it takes the
leader's profile but for the five fields that stay its own, its target and guards with it, and a changed freshness limit acts on
its supervision; its estimates, miss run and draw state are set aside; while it is STREAMING and the leader holds a current
rung, its own is derived through the map (read here where no ask is queued, so that no grant judges it again in the same note);
no other session's role changes. A TETHER that names an index above 15 is refused BAD_SESSION; else it is refused
TETHER_INVALID with the number of the first check it fails, the admin states of both sessions being judged first. -/
def Obligations.TetherFormsTheFollowerOrFails : Prop :=
  (∀ (s : State) (b : Batch) (n : TetherNote) (l f : SessionIx) (p own : Profile), s.Hears b →
    n.leader = l.val → n.follower = f.val → n.malformed = false →
    (∀ k, s.TetherPasses l f k) → (s.session l).profile = some p → (s.session f).profile = some own →
    ∃ e, NoteDoes (.tether (some n)) s b e 15 (acceptedCode (n.map.any fun m => m.any fun v => decide (11 < v))) none ∧
      (∃ entry, (e.session l).role = .leader ((s.session l).followers ++ [entry]) ∧ entry.index = f ∧
        entry.isDefault = n.map.isNone ∧
        (∀ k (h : k < 12), entry.map[k] =
          match n.map with
          | some m => min 11 (m.getD k (m.getLast?.getD 0))
          | none => min k ((s.session f).published.elim 12 (fun d => d.rungs.length) - 1)) ∧
        (∀ d r g low, s.gate.askQueue = [] → (∀ h ∈ (s.session l).followers, h.index ≠ f) →
          (s.session f).admin = .streaming → (s.session f).published = some d →
          (s.session f).eff = some g → (s.session l).rung = some r → r < 12 →
          low < d.rungs.length → d.usable low = true → (∀ k, k < low → d.usable k = false) →
          ∃ k, (e.session f).rung = some k ∧
            IsHighest d.rungs.length (fun k => d.usable k = true ∧ (k = low ∨ k ≤ g.ceiling) ∧ k ≤ (entry.map[r]?).getD 0)
              low k)) ∧
      (e.session f).role = .follower l ∧
      (e.session f).profile = some { p with
        uplinkPriority := own.uplinkPriority, outstandingLimit := own.outstandingLimit, pins := own.pins
        initialSpeed := own.initialSpeed, defaultCeiling := own.defaultCeiling } ∧
      (e.session f).eff = (s.session f).eff.map (fun g => { g with
        target := p.bufferTarget, targetSource := if own.pins.target then .pinned else .profile
        lowGuard := min p.lowGuard p.bufferTarget
        panicLevel := min p.panicLevel (min p.lowGuard p.bufferTarget) }) ∧
      (e.session f).buffer = (if own.freshnessLimit = p.freshnessLimit then (s.session f).buffer
        else (s.session f).buffer.afterLimit own.freshnessLimit p.freshnessLimit s.time) ∧
      (e.session f).estimates = none ∧ (e.session f).missRun = 0 ∧ (e.session f).shares = none ∧
      (e.session f).draw = { (s.session f).draw with
        phase := .off, cap := none, retryTimer := none, retriesUsed := 0, stageClock := 0, overTime := 0, quietRun := 0
        openMark := false, penaltyMark := false } ∧
      ∀ j, j ≠ l → j ≠ f → (e.session j).role = (s.session j).role) ∧
  ∀ (s : State) (b : Batch) (n : TetherNote), s.Hears b → n.malformed = false →
    (15 < n.leader ∨ 15 < n.follower → NoteDoes (.tether (some n)) s b s 15 .badSession none) ∧
    ∀ l f : SessionIx, n.leader = l.val → n.follower = f.val →
      (¬ s.TetherPasses l f 2 → NoteDoes (.tether (some n)) s b s 15 .tetherInvalid (some 2)) ∧
      (∀ k, s.TetherPasses l f 2 → (∀ j, j < k → s.TetherPasses l f j) → ¬ s.TetherPasses l f k →
        NoteDoes (.tether (some n)) s b s 15 .tetherInvalid (some k))

/-- UNTETHER releases the named follower, its leader keeping the others in order, and the shares are recomputed; a session
that is no follower is refused TETHER_INVALID with detail 4. A leader that is reset or closed releases every follower in the
same way. (That a START follower released while STREAMING enters supervision at the release is log entry 24, DEDUCED from R130.) -/
def Obligations.UntetherReleasesTheFollower : Prop :=
  ∀ (s : State) (b : Batch) (i : SessionIx) (p : Profile), s.Hears b →
    (s.session i).admin = .primed ∨ (s.session i).admin = .streaming → (s.session i).profile = some p →
    ((∀ l, (s.session i).role ≠ .follower l) →
      NoteDoes (.untether (some i.val)) s b s 11 .tetherInvalid (some 4)) ∧
    (∀ l fs others, (s.session i).role = .follower l → (s.session l).role = .leader fs →
      others = fs.filter (fun e => decide (e.index ≠ i)) →
      NoteDoes (.untether (some i.val)) s b
        (State.recompute ((s.modSession l fun x =>
            { x with role := if others = [] then .independent else .leader others }).modSession i
          fun x => x.afterRelease p.drawKind s.time)) 11 .accepted none) ∧
    (∀ fs, (s.session i).role = .leader fs → (fs.map FollowerEntry.index).Nodup →
      (∀ e ∈ fs, e.index ≠ i ∧ (s.session e.index).role = .follower i) →
      (∀ e ∈ fs, ∀ q, (s.session e.index).profile = some q →
        (s.dissolve i).session e.index = (s.session e.index).afterRelease q.drawKind s.time) ∧
      (∀ j, j ≠ i → (∀ e ∈ fs, e.index ≠ j) → (s.dissolve i).session j = s.session j))

/-- REARM: refused TETHERED on a follower, without effect in OFF, and else back to WATCHING with the cap, the timer, the
counts and the penalty mark cleared and the supervision of its draw kind begun again; the shares are recomputed when a
contender's cap was removed. -/
def Obligations.RearmRestoresWatching : Prop :=
  ∀ (s : State) (b : Batch) (i : SessionIx) (p : Profile), s.Hears b →
    (s.session i).admin = .primed ∨ (s.session i).admin = .streaming → (s.session i).profile = some p →
    (∀ l, (s.session i).role = .follower l → NoteDoes (.rearm (some i.val)) s b s 12 .tethered none) ∧
    ((∀ l, (s.session i).role ≠ .follower l) →
      ((s.session i).draw.phase = .off → NoteDoes (.rearm (some i.val)) s b s 12 .accepted none) ∧
      ((s.session i).draw.phase ≠ .off → NoteDoes (.rearm (some i.val)) s b
        (if (s.session i).draw.cap ≠ none ∧ (s.session i).admin = .streaming then
           State.recompute (s.modSession i fun x => x.afterRearm p.drawKind s.time)
         else s.modSession i fun x => x.afterRearm p.drawKind s.time) 12 .accepted none))

/-! Flows. -/

/-- FLOW BIND adds an entry, bound now and never hit, unless the key is held, the session holds 4 entries or the table 48, in
this order of checks (that it stands behind the session's others is the model's: log entry 36); FLOW UNBIND removes the
session's entry for the key and is refused when it has none. An entry that has gone its idle limit without a hit is removed and
FLOW_EXPIRED raised on its session; an entry that has not, and a key no entry holds, changes nothing. -/
def Obligations.FlowsAreBoundUnboundAndExpire : Prop :=
  (∀ (s : State) (b : Batch) (n : FlowNote) (i : SessionIx), s.Hears b → n.session = i.val →
    (s.session i).admin ≠ .vacant →
    ((∃ e ∈ s.flows, e.key = n.key) → NoteDoes (.flowBind (some n)) s b s 16 .duplicateFlow none) ∧
    ((∀ e ∈ s.flows, e.key ≠ n.key) →
      (4 ≤ (s.flows.filter fun e => decide (e.session = i)).length →
        NoteDoes (.flowBind (some n)) s b s 16 .flowLimit none) ∧
      ((s.flows.filter fun e => decide (e.session = i)).length < 4 →
        (48 ≤ s.flows.length → NoteDoes (.flowBind (some n)) s b s 16 .tableFull none) ∧
        (s.flows.length < 48 → NoteDoes (.flowBind (some n)) s b
          { s with flows := s.flows ++
              [{ key := n.key, session := i, bindTime := s.time, lastHit := none, hits := 0 }] } 16 .accepted none))) ∧
    ((∀ e ∈ s.flows, e.key = n.key → e.session ≠ i) → NoteDoes (.flowUnbind (some n)) s b s 17 .noSuchFlow none) ∧
    (∀ e ∈ s.flows, e.key = n.key → e.session = i → (s.flows.map FlowEntry.key).Nodup →
      NoteDoes (.flowUnbind (some n)) s b { s with flows := s.flows.filter fun g => decide (g.key ≠ n.key) } 17 .accepted
        none)) ∧
  ∀ (s : State) (k : FlowKey), s.resetAsserted = false → (s.flows.map FlowEntry.key).Nodup →
    (∀ e ∈ s.flows, e.key = k → s.setup.idleLimit * 1000 ≤ elapsed s.time (e.lastHit.getD e.bindTime) →
      ∃ t, exec (.flowIdle k) s = .next t ∧
        t.apartFromReports = State.apartFromReports
          { s.modSession e.session (fun x => { x with causes := x.causes ||| Cause.flowExpired.bit }) with
            flows := s.flows.filter fun g => decide (g.key ≠ k) }) ∧
    ((∀ e ∈ s.flows, e.key = k → elapsed s.time (e.lastHit.getD e.bindTime) < s.setup.idleLimit * 1000) →
      exec (.flowIdle k) s = .next s)

/-! The fetch gate. -/

/-- ASK: refused ASK_PENDING while the session has an ask queued; else it joins the end of the queue with its clamped
duration and the queue is examined. With its flush flag set, the buffer model is first anchored at 0 with its empty point
stopped, every slot of the session is released, and the open mark of a START contender is set: the session's own, or its
leader's while that is STREAMING, whatever the draw state. -/
def Obligations.AskJoinsTheQueue : Prop :=
  ∀ (s : State) (b : Batch) (n : AskNote) (i : SessionIx) (emptied released flushed : State), s.Hears b →
    n.session = i.val → (s.session i).admin = .streaming →
    emptied = s.modSession i (fun x => { x with buffer := { x.buffer with
      anchor := 0, anchorTime := s.time, emptyPoint := none } }) →
    released = emptied.releaseSlots i →
    (n.flush = false → flushed = s) →
    (n.flush = true → (∀ c, ¬ s.IsContenderOf i c) → flushed = released) →
    (∀ c p, n.flush = true → s.IsContenderOf i c → (s.session c).profile = some p → flushed =
      if p.drawKind = .start then released.modSession c fun x => { x with draw := { x.draw with openMark := true } }
      else released) →
    (n.flush = true → ∀ c, s.IsContenderOf i c → (s.session c).profile ≠ none) →
    released.sessions = emptied.sessions ∧
    (∀ k, released.slot k = if ∃ x, s.slot k = some x ∧ x.session = i then none else s.slot k) ∧
    ((∃ a ∈ s.gate.askQueue, a.session = i) → NoteDoes (.askFetch (some n)) s b s 18 .askPending none) ∧
    ((∀ a ∈ s.gate.askQueue, a.session ≠ i) → NoteDoes (.askFetch (some n)) s b
      (State.examine { flushed with gate.askQueue := flushed.gate.askQueue ++
        [{ session := i, segment := n.segment, duration := clampTo 250 20000 n.duration, flush := n.flush
           arrival := s.time }] })
      18 (acceptedCode (decide (n.duration < 250 ∨ 20000 < n.duration))) none)

/-- An ASK of an independent session that finds the queue empty and is eligible is granted within its note: it leaves the
queue, the verdict becomes the current rung, the lowest free slot is filled with the grant, the next tag that no slot of the
session holds is taken, the spacing hold is set, and a GRANT note is queued for the player. -/
def Obligations.EligibleAskIsGranted : Prop :=
  ∀ (s : State) (b : Batch) (n : AskNote) (i : SessionIx) (e : Effective) (p : Profile) (lad : Ladder) (k : SlotIx)
    (v dur dry skipped : Nat) (tag : Byte) (c : Claim), s.Hears b → s.control.claim = some c →
    s.path.reportQueue.length < 7 → n.session = i.val → n.flush = false → s.gate.askQueue = [] →
    (s.session i).admin = .streaming → (s.session i).role = .independent → (s.session i).eff = some e →
    (s.session i).profile = some p → (s.session i).published = some lad →
    s.gate.spacingHold = none → s.occupiedCount < s.setup.maxOutstanding → (s.slotsOf i).length < p.outstandingLimit →
    s.projected i < e.target → s.slot k = none → (∀ m, m < k → s.slot m ≠ none) →
    v = s.verdict i → dur = clampTo 250 20000 n.duration → dry = (s.session i).level s.time * 8 / e.speed →
    skipped < 8 → tag = (s.session i).nextTag + BitVec.ofNat 8 skipped →
    (∀ m x, s.slot m = some x → x.session = i → x.tag ≠ tag) →
    (∀ j, j < skipped → ∃ m x, s.slot m = some x ∧ x.session = i ∧ x.tag = (s.session i).nextTag + BitVec.ofNat 8 j) →
    ∃ t, exec (.askFetch (some n)) s = .next t ∧ t.gate.askQueue = [] ∧
      t.slot k = some
        { session := i, tag := tag, segment := n.segment, duration := dur, rung := v, bitrate := lad.bitrate v
          generation := (s.session i).generation, grantTime := s.time
          deadline := if max dur dry < max (4 * dur) 20000 then some (later s.time (max dur dry)) else none
          expiry := later s.time (max (4 * dur) 20000), missed := false, bytes := 0, phase := .granted
          overLow := false, order := s.gate.grantsMade } ∧
      (∀ m, m ≠ k → t.slot m = s.slot m) ∧ (t.session i).rung = some v ∧ (t.session i).nextTag = tag + 1 ∧
      (t.session i).expiredTags = (s.session i).expiredTags.filter (fun u => decide (u ≠ tag)) ∧
      t.gate.spacingHold = (if s.setup.grantSpacing = 0 then none else some (later s.time s.setup.grantSpacing)) ∧
      ∃ f ∈ t.path.reportQueue, f.isReply = false ∧ OutNote.grant
        { session := i, tag := tag, segment := n.segment, slot := k, rung := v, bitrate := lad.bitrate v,
          generation := (s.session i).generation, expiryOffset := max (4 * dur) 20000,
          deadlineOffset := if max dur dry < max (4 * dur) 20000 then some (max dur dry) else none } ∈ f.notes

/-- An ask is eligible when a slot of the table and one of its session are to spare, no spacing hold runs, and its session's
projected buffer lies below its target. The arbiter chooses the eligible ask that ranks first: PANIC, class, projected buffer,
place in the queue. An examination that finds none eligible only sets the drain timers; it grants the chosen ask, once when the
grant spacing is above 0, and examines again when it is 0; behind it no queued ask is eligible. A drain timer runs exactly for a
session whose queued ask waits only for its PLAYING buffer to drain, until the time its projected buffer falls below the target.
A grant takes the ask from the queue, judges its session, fills the lowest free slot with its rung, tag, deadline and expiry (its
place among all grants is the model's: log entry 11), sets the spacing hold, opens a START staircase marked to open, and queues
the GRANT for the player. -/
def Obligations.QueueIsExamined : Prop :=
  (∀ (s : State) (i : SessionIx) (p : Profile) (e : Effective), (s.session i).profile = some p → (s.session i).eff = some e →
    (s.eligible i = true ↔ s.Admits i p.outstandingLimit ∧ s.projection i < e.target)) ∧
  (∀ (s : State) (a : Ask), s.chooseAsk = some a ↔ ∃ before behind, s.gate.askQueue = before ++ a :: behind ∧
    s.eligible a.session = true ∧
    (∀ c ∈ before, s.eligible c.session = true → s.RanksBefore a.session c.session) ∧
    ∀ c ∈ behind, s.eligible c.session = true → ¬ s.RanksBefore c.session a.session) ∧
  (∀ s : State,
    (s.chooseAsk = none ↔ ∀ a ∈ s.gate.askQueue, s.eligible a.session = false) ∧
    (s.chooseAsk = none → s.examine = s.setDrainTimers) ∧
    (∀ a, s.chooseAsk = some a → s.setup.grantSpacing ≠ 0 → s.examine = (s.grant a).setDrainTimers) ∧
    (∀ a, s.chooseAsk = some a → s.setup.grantSpacing = 0 → s.examine = (s.grant a).examine) ∧
    (s.DeviceInRange → ∀ a ∈ s.examine.gate.askQueue, s.examine.eligible a.session = false)) ∧
  (∀ (s t : State) (i : SessionIx), t = s.setDrainTimers →
    t = { s with sessions := t.sessions } ∧
    t.session i = { s.session i with drainTimer := (t.session i).drainTimer } ∧
    ((∀ a ∈ s.gate.askQueue, a.session ≠ i) → (t.session i).drainTimer = none) ∧
    ∀ (p : Profile) (e : Effective) (excess : Nat), (s.session i).profile = some p → (s.session i).eff = some e →
      (∃ a ∈ s.gate.askQueue, a.session = i) → excess = s.projection i + 1 - e.target →
      (s.Admits i p.outstandingLimit → e.target ≤ s.projection i → (s.session i).buffer.playback = .playing →
        excess ≤ (s.session i).level s.time →
        (t.session i).drainTimer = some (later s.time (ceilDiv (excess * 8) e.speed))) ∧
      (¬ s.Admits i p.outstandingLimit ∨ s.projection i < e.target ∨ (s.session i).buffer.playback ≠ .playing ∨
        (s.session i).level s.time < excess → (t.session i).drainTimer = none)) ∧
  ∀ (s w t : State) (a : Ask) (i : SessionIx) (k : SlotIx) (tag : Byte) (skipped r dry : Nat) (l : Ladder) (e : Effective)
    (queue : List Ask), t = s.grant a → i = a.session →
    queue = s.gate.askQueue.filter (fun c => decide (c.session ≠ i)) →
    w = State.judge { s with gate.askQueue := queue } i →
    (s.session i).published = some l → (s.session i).eff = some e → (w.session i).rung = some r →
    s.slot k = none → (∀ m, m < k → s.slot m ≠ none) → dry = (s.session i).level s.time * 8 / e.speed →
    skipped < 8 → tag = (s.session i).nextTag + BitVec.ofNat 8 skipped →
    (∀ m x, s.slot m = some x → x.session = i → x.tag ≠ tag) →
    (∀ j, j < skipped → ∃ m x, s.slot m = some x ∧ x.session = i ∧ x.tag = (s.session i).nextTag + BitVec.ofNat 8 j) →
    t.gate =
      { (s.setSlot k (some
          { session := i, tag := tag, segment := a.segment, duration := a.duration, rung := r, bitrate := l.bitrate r
            generation := (s.session i).generation, grantTime := s.time
            deadline := if max a.duration dry < max (4 * a.duration) 20000 then some (later s.time (max a.duration dry))
                        else none
            expiry := later s.time (max (4 * a.duration) 20000), missed := false, bytes := 0, phase := .granted
            overLow := false, order := s.gate.grantsMade })).gate with
        askQueue := queue
        spacingHold := if s.setup.grantSpacing = 0 then s.gate.spacingHold
                       else some (later s.time s.setup.grantSpacing)
        grantsMade := s.gate.grantsMade + 1 } ∧
    (∀ j y, y = (if j = i then
          { w.session i with nextTag := tag + 1
                             expiredTags := (w.session i).expiredTags.filter fun u => decide (u ≠ tag) }
        else w.session j) →
      ((s.IsContenderOf i j ∧ (∃ p, y.profile = some p ∧ p.drawKind = .start) ∧ y.draw.phase = .watching ∧
          y.draw.openMark = true) →
        t.session j = { y with draw := { y.draw with openMark := false, stageClock := 0, overTime := 0
                                                     entryTime := some s.time, settled := false } }) ∧
      ((¬ s.IsContenderOf i j ∨ (∀ p, y.profile = some p → p.drawKind ≠ .start) ∨ y.draw.phase ≠ .watching ∨
          y.draw.openMark = false) → t.session j = y)) ∧
    ∀ c, s.control.claim = some c → s.path.reportQueue.length < 8 → ∃ f ∈ t.path.reportQueue, f.isReply = false ∧
      OutNote.grant
        { session := i, tag := tag, segment := a.segment, slot := k, rung := r, bitrate := l.bitrate r,
          generation := (s.session i).generation, expiryOffset := max (4 * a.duration) 20000,
          deadlineOffset := if max a.duration dry < max (4 * a.duration) 20000 then some (max a.duration dry)
                            else none } ∈ f.notes

/-- DONE COMPLETE of a session's slot: the slot is freed, its duration credited to the session's buffer up to 120,000, its
sample taken (both estimates seeded or updated) or the fetch counted short on the session, the completion counted on the
session, the miss run cleared unless the deadline was missed, the draw bookkeeping advanced, and the queue examined. The
estimates, the miss run and the draw bookkeeping are those of the session itself, or, for a follower, of its leader, whose draw
bookkeeping advances only while it is STREAMING. -/
def Obligations.DoneCompletesTheFetch : Prop :=
  ∀ (s : State) (b : Batch) (n : DoneNote) (i m : SessionIx) (k : SlotIx) (x : Slot) (e : Effective) (p : Profile)
    (sample : Option Nat) (est : Option Estimates) (level : Nat) (watched : Bool), s.Hears b → n.session = i.val →
    n.outcome = .complete → (s.session i).admin = .streaming →
    ((s.session i).role = .follower m ∧ m ≠ i) ∨ (m = i ∧ ∀ l, (s.session i).role ≠ .follower l) →
    (s.session i).eff = some e → (s.session m).profile = some p → s.slot k = some x → x.session = i → x.tag = n.tag →
    (∀ j y, j ≠ k → s.slot j = some y → y.session = i → y.tag ≠ n.tag) →
    level = min 120000 ((s.session i).level s.time + x.duration) →
    (x.phase = .granted → sample = none) →
    (∀ first last, x.phase = .receiving first last →
      sample = if x.bytes < 24000 ∨ elapsed last first < 20 then none
               else some (min 1000000 (x.bytes * 8 / elapsed last first))) →
    est = (match sample, (s.session m).estimates with
      | none, o => o
      | some v, none => some { fast := v, slow := v }
      | some v, some o => some { fast := (o.fast * 8 + v * 8 + 8) / 16, slow := (o.slow * 14 + v * 2 + 8) / 16 }) →
    watched = decide (p.drawKind ≠ .unwatched ∧ (s.session m).draw.phase = .watching) →
    NoteDoes (.doneFetch (some n)) s b
      (State.examine (((s.setSlot k none).modSession i fun y => { y with
        buffer := { y.buffer with
          anchor := level, anchorTime := s.time
          emptyPoint := if y.buffer.playback = .playing ∧ level ≠ 0 then
              some (later s.time (ceilDiv (level * 8) e.speed)) else none }
        stats := { y.stats with
          segmentsCompleted := y.stats.segmentsCompleted + 1
          shortFetches := if sample = none then y.stats.shortFetches + 1 else y.stats.shortFetches } }).modSession m
        fun y => { y with
          estimates := est
          missRun := if x.missed then y.missRun else 0
          draw :=
            if (s.session m).admin = .streaming then { y.draw with
              overTime := if p.drawKind = .live ∧ y.draw.phase = .watching ∧ x.overLow = false then 0 else y.draw.overTime
              penaltyMark := false
              quietRun := if y.draw.penaltyMark = false ∧ watched = true then
                  (if 8 ≤ y.draw.quietRun + 1 then 0 else y.draw.quietRun + 1) else y.draw.quietRun
              retriesUsed := if y.draw.penaltyMark = false ∧ watched = true ∧ 8 ≤ y.draw.quietRun + 1 then 0
                else y.draw.retriesUsed }
            else y.draw }))
      19 .accepted none

/-- DONE ABANDONED and ABORT free the slot with no credit and no sample and the queue is examined; a tag that no slot of the
session holds is answered LATE_TAG, once, when the session's expired-tag list holds it, and UNKNOWN_TAG otherwise. -/
def Obligations.AbandonedAndLateFetches : Prop :=
  ∀ (s : State) (b : Batch) (i : SessionIx) (tag : Byte) (c : Instr) (ty : Byte), s.Hears b →
    (s.session i).admin = .streaming →
    (∀ k x, s.slot k = some x → x.session = i → x.tag = tag →
      (∀ m y, m ≠ k → s.slot m = some y → y.session = i → y.tag ≠ tag) →
      (c = .doneFetch (some { session := i.val, tag := tag, outcome := .abandoned }) ∧ ty = 19 ∨
       c = .abortFetch (some { session := i.val, tag := tag }) ∧ ty = 20) →
      NoteDoes c s b (s.setSlot k none).examine ty .accepted none) ∧
    ((∀ k x, s.slot k = some x → x.session = i → x.tag ≠ tag) →
      ((∃ o, c = .doneFetch (some { session := i.val, tag := tag, outcome := o })) ∧ ty = 19 ∨
       c = .abortFetch (some { session := i.val, tag := tag }) ∧ ty = 20) →
      (tag ∈ (s.session i).expiredTags → NoteDoes c s b
        (s.modSession i fun x => { x with expiredTags := x.expiredTags.filter fun t => decide (t ≠ tag) }) ty .lateTag
          none) ∧
      (tag ∉ (s.session i).expiredTags → NoteDoes c s b s ty .unknownTag none))

/-- PLAY, in its four steps: the playback state, with a stall counted on entry into STALLED; the level, which becomes the
anchor where it is given; the report of the freshness supervision; and the hints, in the order ceiling, target, speed, for
values the profile does not pin, with the guards following a changed target. The buffer model is re-anchored, and its empty
point set again, when the state changes, a level is given or the speed changes. Then a changed ceiling lowers a rung that is no
longer allowed, a changed ceiling or speed recomputes the shares, and a change of playback state, level, speed, target or
guards examines the queue. The note is answered ACCEPTED_CLAMPED when the level or an adopted hint was clamped, or a changed
target leaves a guard below its profile value (log entry 12). -/
def Obligations.PlayReportsAndHints : Prop :=
  ∀ (s : State) (b : Batch) (n : PlayNote) (i : SessionIx) (p : Profile) (g h : Effective) (x : Session)
    (ceiling target speed : Option Nat) (buf : BufferModel) (stored lowered shared examined : State) (clamped : Bool),
    s.Hears b → n.session = i.val → (s.session i).admin = .streaming → (s.session i).profile = some p →
    (s.session i).eff = some g → x = s.session i →
    ceiling = (if p.pins.ceiling then none else n.ceiling) → target = (if p.pins.target then none else n.target) →
    speed = (if p.pins.speed then none else n.speed) →
    h = { ceiling := ceiling.elim g.ceiling (clampTo 0 11)
          ceilingSource := if ceiling = none then g.ceilingSource else .hint
          target := target.elim g.target (clampTo 2000 120000)
          targetSource := if target = none then g.targetSource else .hint
          speed := speed.elim g.speed (clampTo 4 16)
          speedSource := if speed = none then g.speedSource else .hint
          lowGuard := if target.elim g.target (clampTo 2000 120000) = g.target then g.lowGuard
                      else min p.lowGuard (target.elim g.target (clampTo 2000 120000))
          panicLevel := if target.elim g.target (clampTo 2000 120000) = g.target then g.panicLevel
                        else min p.panicLevel (min p.lowGuard (target.elim g.target (clampTo 2000 120000))) } →
    buf.playback = n.state →
    (n.state = x.buffer.playback ∧ n.level = none ∧ h.speed = g.speed →
      buf.anchor = x.buffer.anchor ∧ buf.anchorTime = x.buffer.anchorTime ∧ buf.emptyPoint = x.buffer.emptyPoint) →
    (n.state ≠ x.buffer.playback ∨ n.level ≠ none ∨ h.speed ≠ g.speed →
      buf.anchor = n.level.elim (x.level s.time) (min 120000) ∧ buf.anchorTime = s.time ∧
      buf.emptyPoint = if n.state = .playing ∧ buf.anchor ≠ 0 then
          some (later s.time (ceilDiv (buf.anchor * 8) h.speed)) else none) →
    (p.freshnessLimit = none → buf.freshness = .fresh ∧ buf.freshTimer = none) →
    (∀ f, p.freshnessLimit = some f → n.state ≠ .stopped →
      buf.freshness = (if x.buffer.freshness = .blind then .recovering else .fresh) ∧
      buf.freshTimer = some (later s.time f)) →
    (∀ f, p.freshnessLimit = some f → n.state = .stopped → buf.freshness = x.buffer.freshness ∧
      buf.freshTimer = if x.buffer.playback = .stopped then x.buffer.freshTimer else none) →
    stored = s.modSession i (fun y => { y with
      buffer := buf, eff := some h
      stats.stalls := if n.state = .stalled ∧ y.buffer.playback ≠ .stalled then y.stats.stalls + 1 else y.stats.stalls }) →
    lowered = (if h.ceiling = g.ceiling then stored else stored.lowerToAllowed i) →
    shared = (if h.ceiling = g.ceiling ∧ h.speed = g.speed then lowered else lowered.recompute) →
    examined = (if n.state ≠ x.buffer.playback ∨ n.level ≠ none ∨ h.speed ≠ g.speed ∨
        (h.target, h.lowGuard, h.panicLevel) ≠ (g.target, g.lowGuard, g.panicLevel) then shared.examine else shared) →
    (clamped = true ↔ (∃ v, n.level = some v ∧ 120000 < v) ∨ (∃ v, ceiling = some v ∧ 11 < v) ∨
      (∃ v, target = some v ∧ (v < 2000 ∨ 120000 < v)) ∨ (∃ v, speed = some v ∧ (v < 4 ∨ 16 < v)) ∨
      (h.target ≠ g.target ∧ (h.lowGuard < p.lowGuard ∨ h.panicLevel < p.panicLevel))) →
    NoteDoes (.play (some n)) s b examined 21 (acceptedCode clamped) none

/-! Timers and clock events. -/

/-- A link sample is taken when the busy accumulator holds 500: the estimate takes a quarter of the sample within its range,
the accumulators are cleared, the sample is counted and the shares are recomputed; before that nothing happens. A busy
millisecond raises the accumulator and the busy time by 1; a millisecond in which the meter is not busy raises neither. That
the accumulator waits at 500 for its sample is the model's (log entry 2). -/
def Obligations.LinkMeterSamples : Prop :=
  ∀ (s : State) (y l : Nat), s.resetAsserted = false → y = min 1000000 (s.meter.byteAcc * 8 / 500) →
    l = clampTo 256 1000000 ((s.meter.estimate * 12 + y * 4 + 8) / 16) →
    (500 ≤ s.meter.busyAcc → exec .linkSample s = .next (State.recompute
      { s with meter.estimate := l, meter.busyAcc := 0, meter.byteAcc := 0
               meter.linkSamples := s.meter.linkSamples + 1 })) ∧
    (s.meter.busyAcc < 500 → exec .linkSample s = .next s) ∧
    (s.meterBusy = true → s.meter.busyAcc < 500 → exec .busyMillisecond s = .next
      { s with meter.busyAcc := s.meter.busyAcc + 1, meter.busyTime := s.meter.busyTime + 1, msDue := false }) ∧
    (s.meterBusy = false ∨ 500 ≤ s.meter.busyAcc → exec .busyMillisecond s = .next { s with msDue := false }) ∧
    (s.meterBusy = true ↔ s.path.line.carrier = true ∧ ∃ k x, s.slot k = some x ∧ x.phase ≠ .granted)

/-- The timers. The empty point sets the anchor to 0 at that time and stops; the up-hold deadline becomes absent and nothing
else happens; the spacing hold becomes absent, and a drain timer stops, and the queue is examined. The freshness timer stops and
the session is BLIND, the BLIND cause being raised when it was FRESH and no cause being raised when it was RECOVERING. A slot's
expiry frees the slot, puts its tag at the end of the session's expired tags, whose oldest goes when it held 4, counts the
expiry, raises EXPIRED, and examines the queue. None of them acts before it is reached, that is, while it is absent or still
ahead (log entry 7), and the expiry of a free slot does nothing. -/
def Obligations.TimersExpire : Prop :=
  (∀ (s : State) (i : SessionIx), s.resetAsserted = false →
    (∀ d, (s.session i).buffer.emptyPoint = some d → reached s.time d = true → exec (.emptyPoint i) s = .next
      (s.modSession i fun x => { x with buffer := { x.buffer with anchor := 0, anchorTime := s.time, emptyPoint := none } })) ∧
    (∀ d, (s.session i).upHold = some d → reached s.time d = true → exec (.upHoldExpiry i) s = .next
      (s.modSession i fun x => { x with upHold := none })) ∧
    (∀ d, s.gate.spacingHold = some d → reached s.time d = true → exec .spacingHoldExpiry s = .next
      (State.examine { s with gate.spacingHold := none })) ∧
    (∀ d, (s.session i).drainTimer = some d → reached s.time d = true → exec (.drainTimerExpiry i) s = .next
      (State.examine (s.modSession i fun x => { x with drainTimer := none }))) ∧
    (∀ d, (s.session i).buffer.freshTimer = some d → reached s.time d = true →
      ((s.session i).buffer.freshness = .fresh → ∃ t, exec (.freshnessTimerExpiry i) s = .next t ∧
        t.apartFromReports = (s.modSession i fun x => { x with
          buffer := { x.buffer with freshness := .blind, freshTimer := none }
          causes := x.causes ||| Cause.blind.bit }).apartFromReports) ∧
      ((s.session i).buffer.freshness = .recovering → exec (.freshnessTimerExpiry i) s = .next
        (s.modSession i fun x => { x with buffer := { x.buffer with freshness := .blind, freshTimer := none } }))) ∧
    ((∀ d, (s.session i).buffer.emptyPoint = some d → reached s.time d = false) → exec (.emptyPoint i) s = .next s) ∧
    ((∀ d, (s.session i).upHold = some d → reached s.time d = false) → exec (.upHoldExpiry i) s = .next s) ∧
    ((∀ d, s.gate.spacingHold = some d → reached s.time d = false) → exec .spacingHoldExpiry s = .next s) ∧
    ((∀ d, (s.session i).drainTimer = some d → reached s.time d = false) → exec (.drainTimerExpiry i) s = .next s) ∧
    ((∀ d, (s.session i).buffer.freshTimer = some d → reached s.time d = false) →
      exec (.freshnessTimerExpiry i) s = .next s)) ∧
  ∀ (s : State) (k : SlotIx), s.resetAsserted = false →
    (s.slot k = none → exec (.expiry k) s = .next s) ∧
    ∀ x, s.slot k = some x →
      (reached s.time x.expiry = false → exec (.expiry k) s = .next s) ∧
      (reached s.time x.expiry = true → ∃ t, exec (.expiry k) s = .next t ∧
        t.apartFromReports = (State.examine ((s.setSlot k none).modSession x.session fun y => { y with
          expiredTags := (if 4 ≤ y.expiredTags.length then y.expiredTags.drop 1 else y.expiredTags) ++ [x.tag]
          stats.expiries := y.stats.expiries + 1
          causes := y.causes ||| Cause.expired.bit })).apartFromReports)

/-- A deadline that passes: the slot is marked missed (its deadline stays in the slot, as the model chooses: log entry 32), the
miss is counted on its session, the session is judged, an ADVISORY with its rung is queued for the player, and DEADLINE_MISS is
raised. The miss run of its holder, the session or the leader it follows, rises by 1, or, at its stall threshold, becomes 0 with
the holder's estimates absent and RESYNC raised on it: a holder that is STREAMING then returns to its fallback rung with its
up-hold restarted and its STREAMING followers derived from that rung, whether or not it moved; a leader that is not STREAMING
leaves that to the session itself. A slot whose deadline is absent, ahead or passed already, and a free slot, changes
nothing. -/
def Obligations.DeadlinePasses : Prop :=
  ∀ (s : State) (k : SlotIx), s.resetAsserted = false →
    (s.slot k = none → exec (.deadline k) s = .next s) ∧
    ∀ x, s.slot k = some x →
      (x.missed = true ∨ (∀ d, x.deadline = some d → reached s.time d = false) → exec (.deadline k) s = .next s) ∧
      ∀ (d : Time) (holder : SessionIx) (p q : Profile), x.missed = false → x.deadline = some d → reached s.time d = true →
        (s.session x.session).admin = .streaming → (s.session x.session).profile = some q →
        ((s.session x.session).role = .follower holder ∨
          holder = x.session ∧ ∀ l, (s.session x.session).role ≠ .follower l) →
        (s.session holder).profile = some p →
        ∃ t, exec (.deadline k) s = .next t ∧ t.slot k = some { x with missed := true } ∧
          (∀ m, m ≠ k → t.slot m = s.slot m) ∧
          (t.session x.session).stats.deadlineMisses = (s.session x.session).stats.deadlineMisses + 1 ∧
          (t.session x.session).causes.has .deadlineMiss = true ∧
          ((s.session holder).missRun + 1 < max 1 p.stallThreshold →
            (t.session holder).missRun = (s.session holder).missRun + 1 ∧
            (t.session holder).estimates = (s.session holder).estimates ∧
            ∀ j, (t.session j).rung = ((s.judge x.session).session j).rung ∧
              (t.session j).upHold = ((s.judge x.session).session j).upHold) ∧
          (max 1 p.stallThreshold ≤ (s.session holder).missRun + 1 →
            (t.session holder).missRun = 0 ∧ (t.session holder).estimates = none ∧
            (t.session holder).causes.has .resync = true ∧
            ((s.session holder).admin = .streaming →
              ((s.session holder).followers.map FollowerEntry.index).Nodup →
              (∀ f ∈ (s.session holder).followers, f.index ≠ holder) →
              (t.session holder).rung = some (s.session holder).fallbackRung ∧
              (t.session holder).upHold = p.upHoldFrom s.time ∧
              ∀ f ∈ (s.session holder).followers, ∀ (l : Ladder) (g : Effective) (low : Nat),
                (s.session f.index).admin = .streaming → (s.session f.index).published = some l →
                (s.session f.index).eff = some g → l.IsLowest low →
                ∃ j, (t.session f.index).rung = some j ∧
                  IsHighest l.rungs.length (fun v => l.Allows low g.ceiling none v ∧
                    v ≤ (f.map[(s.session holder).fallbackRung]?).getD 0) low j) ∧
            ((s.session holder).admin ≠ .streaming →
              (t.session x.session).rung = some (s.session x.session).fallbackRung ∧
              (t.session x.session).upHold = q.upHoldFrom s.time)) ∧
          (∀ c lad r, s.control.claim = some c → s.path.reportQueue.length < 8 →
            (s.session x.session).published = some lad → ((s.judge x.session).session x.session).rung = some r →
            ∃ f ∈ t.path.reportQueue, f.isReply = false ∧ OutNote.advisory
              { session := x.session, tag := x.tag, rung := r, bitrate := lad.bitrate r,
                generation := (s.session x.session).generation } ∈ f.notes)

/-- At a window end the window is evaluated for each session in turn, those named first (their order is the command's: log entry
9), and then the window quantities of every session become those of the next window: what has been credited at this time already
(log entry 2), and the receiving mark for a session that holds a RECEIVING slot. A supervised LIVE contender, evaluated first and
found in overdraw by the high limit, gets the demoted rung for its cap, an overdraw counted, its over-time and quiet run cleared,
its penalty mark set, and RETRY_WAIT with its retry timer, or LATCHED when its retries are used. What one evaluation and one
overdraw do are statements of their own. At a time that is no window end nothing happens. -/
def Obligations.DrawWindowIsTaken : Prop :=
  ∀ (s : State) (order : List SessionIx), s.resetAsserted = false →
    (s.time.toNat % 100 ≠ 0 → exec (.drawWindow order) s = .next s) ∧
    (s.time.toNat % 100 = 0 → ∃ t, exec (.drawWindow order) s = .next t ∧ t.windowDue = false ∧
      (∃ (l : List SessionIx) (u : State), l.Nodup ∧ (∀ i, i ∈ l) ∧ (order.Nodup → order <+: l) ∧
        u = l.foldl State.evaluateWindow s ∧ t = { u with windowDue := false, sessions := t.sessions } ∧
        ∀ i, t.session i = { u.session i with draw := { (u.session i).draw with
          windowBytes := (s.session i).draw.nextBytes
          receivingMark := (s.session i).draw.nextMark || s.holdsReceiving i
          nextBytes := 0, nextMark := false } }) ∧
      (∀ (i : SessionIx) (rest : List SessionIx) (p : Profile) (z : Shares), order = i :: rest → order.Nodup →
        (s.session i).admin = .streaming → (s.session i).role = .independent → (s.session i).profile = some p →
        (s.session i).shares = some z → p.drawKind = .live → (s.session i).draw.phase = .watching →
        (s.session i).draw.settled = true → (s.session i).draw.receivingMark = true → s.contended i = true →
        z.share * s.setup.low / 16 ≤ z.share * s.setup.high / 16 →
        z.share * s.setup.high / 16 < (s.session i).draw.windowBytes * 8 / 100 →
        (t.session i).draw.cap = some (s.session i).demotedRung ∧
        (t.session i).stats.overdraws = (s.session i).stats.overdraws + 1 ∧
        (t.session i).draw.overTime = 0 ∧ (t.session i).draw.quietRun = 0 ∧ (t.session i).draw.penaltyMark = true ∧
        (p.retryLimit ≤ (s.session i).draw.retriesUsed →
          (t.session i).draw.phase = .latched ∧ (t.session i).draw.retryTimer = none ∧
          (t.session i).causes.has .latched = true) ∧
        ((s.session i).draw.retriesUsed < p.retryLimit →
          (t.session i).draw.phase = .retryWait ∧
          (t.session i).draw.retryTimer = some (later s.time p.retryInterval) ∧
          (t.session i).causes.has .overdraw = true)))

/-- The evaluation of a window for one session. It is made for a STREAMING START or LIVE contender, WATCHING, that is settled or
entered supervision no later than the window began (the window that ends at 0 began at 4,294,967,200), but not for a START
staircase marked to open; it sets the settled mark and records the draw of its members and whether another contender is in need.
On a window in which no member received nothing more happens. START, by its stage clock: an overdraw in stages A and B above the
high and the mid limit of a contended window, else the clock advances by 100 up to the end of stage B; in Steady the over-time
rises by 100 above the low limit of a contended window, and is an overdraw above its bound. LIVE, above the low limit of a
contended window: the over-low mark is set on the members' slots; above the high limit it is an overdraw, else the over-time rises
by 100 and is an overdraw above its bound. -/
def Obligations.WindowsAreJudged : Prop :=
  ∀ (s kept : State) (i : SessionIx) (x : Session) (p : Profile) (started : Time) (d : Nat) (members : List SessionIx)
    (evaluated contended : Bool), x = s.session i → x.profile = some p →
    started = (if s.time = 0 then 4294967200#32 else s.time - 100#32) →
    evaluated = decide (x.admin = .streaming ∧ x.follows = false ∧ p.drawKind ≠ .unwatched ∧ x.draw.phase = .watching ∧
      (x.draw.settled = true ∨ x.draw.entryTime.any (reached started) = true) ∧
      ¬ (p.drawKind = .start ∧ x.draw.openMark = true)) →
    members = i :: (x.followers.map FollowerEntry.index).filter (fun m => decide ((s.session m).admin = .streaming)) →
    d = (members.map fun m => (s.session m).draw.windowBytes).sum * 8 / 100 →
    (contended = true ↔ ∃ j e, j ≠ i ∧ (s.session j).isContender = true ∧ (s.session j).eff = some e ∧
      (∃ m ∈ s.streamingMembers j, ∃ k y, s.slot k = some y ∧ y.session = m) ∧
      ∃ m ∈ s.streamingMembers j, (s.session m).level s.time < e.lowGuard) →
    kept = s.modSession i (fun y => { y with draw := { y.draw with
      settled := true, lastWindow := some { windowEnd := s.time, draw := d, contended := contended } } }) →
    (evaluated = false → s.evaluateWindow i = s) ∧
    (evaluated = true → (∀ m ∈ members, (s.session m).draw.receivingMark = false) → s.evaluateWindow i = kept) ∧
    ∀ (z : Shares) (high mid low : Nat) (timed : State → State),
      (∃ m ∈ members, (s.session m).draw.receivingMark = true) → evaluated = true → x.shares = some z →
      high = z.share * s.setup.high / 16 → mid = z.share * s.setup.mid / 16 → low = z.share * s.setup.low / 16 →
      (∀ u, timed u = u.modSession i fun y => { y with draw.overTime := y.draw.overTime + 100 }) →
      (p.drawKind = .start →
        (x.draw.stageClock < s.setup.wA + s.setup.wB →
          (contended = true ∧ (if x.draw.stageClock < s.setup.wA then high else mid) < d →
            (s.evaluateWindow i).apartFromReports = (kept.overdraw i).apartFromReports) ∧
          (¬ (contended = true ∧ (if x.draw.stageClock < s.setup.wA then high else mid) < d) →
            s.evaluateWindow i = kept.modSession i fun y => { y with
              draw.stageClock := min (y.draw.stageClock + 100) (s.setup.wA + s.setup.wB) })) ∧
        (s.setup.wA + s.setup.wB ≤ x.draw.stageClock →
          (contended = false ∨ d ≤ low → s.evaluateWindow i = kept) ∧
          (contended = true → low < d →
            (x.draw.overTime + 100 ≤ s.setup.wS → s.evaluateWindow i = timed kept) ∧
            (s.setup.wS < x.draw.overTime + 100 →
              (s.evaluateWindow i).apartFromReports = ((timed kept).overdraw i).apartFromReports)))) ∧
      (p.drawKind = .live →
        (contended = false ∨ d ≤ low → s.evaluateWindow i = kept) ∧
        ∀ marked, contended = true → low < d →
          marked = { kept with gate.slots := kept.gate.slots.map fun o => o.map fun y =>
            if y.session ∈ members then { y with overLow := true } else y } →
          (high < d → (s.evaluateWindow i).apartFromReports = (marked.overdraw i).apartFromReports) ∧
          (d ≤ high → x.draw.overTime + 100 ≤ s.setup.wM → s.evaluateWindow i = timed marked) ∧
          (d ≤ high → s.setup.wM < x.draw.overTime + 100 →
            (s.evaluateWindow i).apartFromReports = ((timed marked).overdraw i).apartFromReports))

/-- An overdraw of a contender: its cap becomes the demoted rung, the highest rung below the current one that is allowed without a
cap, or its lowest rung that is not skipped; a current rung above that is lowered to it, counted as a move, and its STREAMING
followers are derived; a current rung that is the lowest already does not move, and then no follower is derived (log entry 19).
The up-hold is restarted, the over-time and the quiet run become 0, the penalty mark is set, the overdraw is counted, the session
waits for its retry with OVERDRAW raised, or is LATCHED with LATCHED raised when its retries are used; and the shares are
recomputed. -/
def Obligations.OverdrawDemotes : Prop :=
  ∀ (s base : State) (i : SessionIx) (x y : Session) (p : Profile) (l : Ladder) (e : Effective) (r low d : Nat)
    (used : Bool), x = s.session i →
    x.admin = .streaming → (∀ m, x.role ≠ .follower m) → x.profile = some p → x.published = some l → x.eff = some e →
    x.rung = some r → l.IsLowest low → (x.followers.map FollowerEntry.index).Nodup → (∀ f ∈ x.followers, f.index ≠ i) →
    IsHighest l.rungs.length (fun k => l.Allows low e.ceiling none k ∧ k < r) low d →
    (used = true ↔ p.retryLimit ≤ x.draw.retriesUsed) → y = (if d < r then x.withRung d else x) →
    base = s.modSession i (fun _ => { y with
      upHold := p.upHoldFrom s.time
      causes := x.causes ||| (if used then Cause.latched.bit else Cause.overdraw.bit)
      stats.overdraws := x.stats.overdraws + 1
      draw := { x.draw with
        cap := some d, overTime := 0, quietRun := 0, penaltyMark := true
        phase := if used then .latched else .retryWait
        retryTimer := if used then none else some (later s.time p.retryInterval) } }) →
    x.demotedRung = d ∧
    ∃ u, s.overdraw i = u.recompute ∧ base.FollowersDerived u (if d < r then x.followers else []) d

/-- The retry timer of a session in RETRY_WAIT: it stops, a retry is used, the cap is removed and the session is WATCHING
again, in a staircase opened for START or in supervision for LIVE; RETRY is raised and the shares are recomputed. Before the
timer is reached, and in any other draw state, nothing happens. -/
def Obligations.RetryRestoresWatching : Prop :=
  ∀ (s : State) (i : SessionIx), s.resetAsserted = false →
    ((s.session i).draw.phase ≠ .retryWait ∨ (∀ d, (s.session i).draw.retryTimer = some d → reached s.time d = false) →
      exec (.retryExpiry i) s = .next s) ∧
    (∀ d p, (s.session i).draw.phase = .retryWait → (s.session i).draw.retryTimer = some d → reached s.time d = true →
      (s.session i).profile = some p → p.drawKind ≠ .unwatched →
      ∃ t, exec (.retryExpiry i) s = .next t ∧ t.apartFromReports = (State.recompute (s.modSession i fun x => { x with
        causes := x.causes ||| Cause.retry.bit
        draw := { x.draw with
          retryTimer := none, retriesUsed := x.draw.retriesUsed + 1, cap := none, phase := .watching
          entryTime := some s.time, settled := false
          openMark := if p.drawKind = .start then false else x.draw.openMark
          stageClock := if p.drawKind = .start then 0 else x.draw.stageClock
          overTime := if p.drawKind = .start then 0 else x.draw.overTime } })).apartFromReports)

/-! Shares and verdicts. -/

/-- A recomputation forms A from the link estimate and the margin and divides it: the shares and the spare sum to A; in the
starved case, when the floor needs reach A, each share is its part of A by floor need and at most that need; else the remainder
is filled by weight in rounds, each share lying between the contender's floor need and its cap need; and no session but a
contender holds a share. The floor need is the combined need of the lowest rung that is not skipped, the cap need that of the
highest allowed rung and at least the floor need; the combined need of a rung is the session's own need of it and what each of its
STREAMING followers needs for the rung it would be derived to. -/
def Obligations.SharesAndSpareMakeTheTotal : Prop :=
  ∀ (s t : State) (total floors : Nat) (contenders : List SessionIx), t = s.recompute →
    total = s.meter.estimate * s.setup.margin / 16 →
    contenders = allSessions.filter (fun i => (s.session i).isContender) → floors = (contenders.map s.floorNeed).sum →
    t.alloc.total = total ∧
    (allSessions.map fun i => (t.session i).shares.elim 0 Shares.share).sum + t.alloc.spare = total ∧
    (t.alloc.starved = true ↔ total ≤ floors) ∧
    (∀ i, (s.session i).isContender = false → (t.session i).shares = none) ∧
    (∀ i, (s.session i).isContender = true → ∃ z, (t.session i).shares = some z ∧ z.floorNeed = s.floorNeed i ∧
      z.capNeed = s.capNeed i ∧
      (total ≤ floors → z.share = s.floorNeed i * total / floors ∧ z.share ≤ s.floorNeed i) ∧
      (floors < total → s.floorNeed i ≤ z.share ∧ z.share ≤ s.capNeed i)) ∧
    (floors < total → WaterFilled s.floorNeed s.capNeed (fun i => (s.session i).profile.elim 0 Profile.weight)
      (fun i => (t.session i).shares.elim 0 Shares.share) (total - floors) contenders) ∧
    (∀ i, (s.session i).isContender = true ↔
      (s.session i).admin = .streaming ∧ ∀ m, (s.session i).role ≠ .follower m) ∧
    (∀ (i : SessionIx) (l : Ladder) (e : Effective) (low : Nat), (s.session i).isContender = true →
      (s.session i).published = some l → (s.session i).eff = some e → l.IsLowest low →
      s.floorNeed i = s.combinedNeed i low ∧
      (∃ high, IsHighest l.rungs.length (fun k => l.Allows low e.ceiling (s.session i).draw.cap k) low high ∧
        s.capNeed i = max (s.floorNeed i) (s.combinedNeed i high)) ∧
      ∀ k, ∃ adds : List Nat, s.combinedNeed i k = (l.bitrate k * e.speed + 7) / 8 + adds.sum ∧
        adds.length = (s.session i).followers.length ∧
        ∀ (n : Nat) (f : FollowerEntry) (a : Nat), (s.session i).followers[n]? = some f → adds[n]? = some a →
          ((s.session f.index).admin ≠ .streaming → a = 0) ∧
          ∀ (v : Ladder) (g : Effective) (b : Nat), (s.session f.index).admin = .streaming →
            (s.session f.index).published = some v → (s.session f.index).eff = some g → v.IsLowest b →
            ∃ m, IsHighest v.rungs.length (fun j => v.Allows b g.ceiling none j ∧ j ≤ (f.map[k]?).getD 0) b m ∧
              a = (v.bitrate m * g.speed + 7) / 8) ∧
    (∀ i, (t.session i).rung = (s.session i).rung) ∧ t.gate = s.gate

/-- The verdict for a session that follows no other, with current rung r: some member not FRESH, the highest allowed rung at or
below the fallback; else by zone, against the least level of the session and its STREAMING followers: in PANIC, which a STALLED
member makes too, the lowest rung not skipped; in LOW the lesser of the rate candidate and r; in STEADY the candidate below r, one
allowed rung up when the candidate is above r and the up-hold is clear, and r otherwise; in FULL the same, but down only when the
usable rate is below three quarters of the need of r. Needs are combined needs: the followers' are in them. -/
def Obligations.VerdictFollowsTheZone : Prop :=
  ∀ (s : State) (i : SessionIx) (lad : Ladder) (e : Effective) (z : Shares) (r low k level rate : Nat) (need : Nat → Nat)
    (allowed : Nat → Prop) (member : SessionIx → Prop),
    (∀ l, (s.session i).role ≠ .follower l) → (s.session i).published = some lad → (s.session i).eff = some e →
    (s.session i).shares = some z → (s.session i).rung = some r → lad.IsLowest low →
    (∀ j, allowed j ↔ lad.Allows low e.ceiling (s.session i).draw.cap j) →
    (∀ m, member m ↔ m = i ∨ ∃ f ∈ (s.session i).followers, f.index = m) →
    (∃ m, member m ∧ (m = i ∨ (s.session m).admin = .streaming) ∧ level = (s.session m).level s.time) →
    (∀ m, member m → m = i ∨ (s.session m).admin = .streaming → level ≤ (s.session m).level s.time) →
    rate = (match (s.session i).estimates with | none => z.share | some o => min (min o.fast o.slow) z.share) →
    (∀ j, need j = s.combinedNeed i j) →
    s.zoneLevel i = level ∧
    (s.zone i = .panic ↔
      (∃ m, member m ∧ (s.session m).buffer.playback = .stalled) ∨ level < e.panicLevel) ∧
    ((∃ m, member m ∧ (s.session m).buffer.freshness ≠ .fresh) →
      IsHighest lad.rungs.length (fun j => allowed j ∧ j ≤ lad.fallback) low (s.verdict i)) ∧
    ((∀ m, member m → (s.session m).buffer.freshness = .fresh) →
      ((∃ m, member m ∧ (s.session m).buffer.playback = .stalled) ∨ level < e.panicLevel → s.verdict i = low) ∧
      ((∀ m, member m → (s.session m).buffer.playback ≠ .stalled) → e.panicLevel ≤ level →
        (level < e.lowGuard → IsHighest lad.rungs.length (fun j => allowed j ∧ need j ≤ rate * 12 / 16) low k →
          s.verdict i = min k r) ∧
        (e.lowGuard ≤ level → IsHighest lad.rungs.length (fun j => allowed j ∧ need j ≤ rate) low k →
          (k < r → level < e.target → s.verdict i = k) ∧
          (k < r → e.target ≤ level → s.verdict i = if rate < need r * 12 / 16 then k else r) ∧
          (k = r → s.verdict i = r) ∧
          (r < k → (s.session i).upHold ≠ none → s.verdict i = r) ∧
          (r < k → (s.session i).upHold = none → ∀ u, u < lad.rungs.length → allowed u → r < u →
            (∀ j, j < u → r < j → ¬ allowed j) → s.verdict i = u))))

/-- The judgement that a grant or a passed deadline of a session asks for. It judges the session itself, or the leader it follows
while that is STREAMING, by the verdict; a follower of a leader that is not STREAMING is judged by its fallback rung alone. A
verdict equal to the current rung changes nothing; another one becomes the current rung, is counted as a move, restarts the up-hold
and derives the judged session's STREAMING followers; and nothing else changes. -/
def Obligations.JudgementIsApplied : Prop :=
  ∀ (s : State) (a j : SessionIx) (v r : Nat) (p : Profile),
    ((∀ m, (s.session a).role ≠ .follower m) ∧ j = a ∧ v = s.verdict a) ∨
    ((s.session a).role = .follower j ∧ (s.session j).admin = .streaming ∧ v = s.verdict j) ∨
    (j = a ∧ (∃ m, (s.session a).role = .follower m ∧ (s.session m).admin ≠ .streaming) ∧
      v = (s.session a).fallbackRung) →
    (s.session j).rung = some r → (s.session j).profile = some p →
    ((s.session j).followers.map FollowerEntry.index).Nodup → (∀ f ∈ (s.session j).followers, f.index ≠ j) →
    (v = r → s.judge a = s) ∧
    (v ≠ r → (s.modSession j fun x => { x.withRung v with upHold := p.upHoldFrom s.time }).FollowersDerived (s.judge a)
      (s.session j).followers v)

/-! Invariants that every step keeps, and the reset state that has them. -/

/-- Every step keeps the device values, the link estimate and the busy accumulator in their ranges. -/
def Obligations.DeviceRangesAreKept : Prop :=
  ∀ s t : State, s.DeviceInRange → step s = .next t → t.DeviceInRange

/-- Every step keeps every queue within its bound, with at most one ask a session. -/
def Obligations.QueueBoundsAreKept : Prop :=
  ∀ s t : State, s.QueuesBounded → step s = .next t → t.QueuesBounded

/-- Every step keeps the flow table's bounds: 48 entries, no key twice, 4 entries a session, each entry on a session that is
not VACANT. -/
def Obligations.FlowTableIsKept : Prop :=
  ∀ s t : State, s.FlowsSound → step s = .next t → t.FlowsSound

/-- Every step keeps every record in agreement with its admin state: a published ladder exactly in STREAMING, a profile and
effective values exactly in PRIMED and STREAMING, and an anchor of at most 120,000. -/
def Obligations.RecordsStaySound : Prop :=
  ∀ s t : State, s.RecordsSound → step s = .next t → t.RecordsSound

/-- Every step keeps the roles in agreement, in a state whose records are sound: followers and leaders name each other, a leader
lists one to three followers, none twice, members are PRIMED or STREAMING, and map entries are rung indices. -/
def Obligations.TethersStaySound : Prop :=
  ∀ s t : State, s.RecordsSound → s.TethersSound → step s = .next t → t.TethersSound

/-- The reset state has every invariant. -/
def Obligations.ResetHasTheInvariants : Prop :=
  State.reset.DeviceInRange ∧ State.reset.QueuesBounded ∧ State.reset.FlowsSound ∧ State.reset.RecordsSound ∧
  State.reset.TethersSound
end

