-- ==== Sys2Proof/Laws/State.lean ====
section
/-! SUPPORT. What each record update of State leaves and sets, one small lemma per field, so that no later proof unfolds an
update. -/

namespace Sys2Proof.Machine

@[simp] theorem State.modSession_time (s : State) (i : SessionIx) (f : Session → Session) : (s.modSession i f).time = s.time := rfl
@[simp] theorem State.modSession_gate (s : State) (i : SessionIx) (f : Session → Session) : (s.modSession i f).gate = s.gate := rfl
@[simp] theorem State.modSession_setup (s : State) (i : SessionIx) (f : Session → Session) : (s.modSession i f).setup = s.setup := rfl
@[simp] theorem State.modSession_meter (s : State) (i : SessionIx) (f : Session → Session) : (s.modSession i f).meter = s.meter := rfl
@[simp] theorem State.modSession_alloc (s : State) (i : SessionIx) (f : Session → Session) : (s.modSession i f).alloc = s.alloc := rfl
@[simp] theorem State.modSession_control (s : State) (i : SessionIx) (f : Session → Session) : (s.modSession i f).control = s.control := rfl
@[simp] theorem State.modSession_path (s : State) (i : SessionIx) (f : Session → Session) : (s.modSession i f).path = s.path := rfl
@[simp] theorem State.modSession_flows (s : State) (i : SessionIx) (f : Session → Session) : (s.modSession i f).flows = s.flows := rfl
@[simp] theorem State.modSession_resetAsserted (s : State) (i : SessionIx) (f : Session → Session) : (s.modSession i f).resetAsserted = s.resetAsserted := rfl
@[simp] theorem State.modSession_msDue (s : State) (i : SessionIx) (f : Session → Session) : (s.modSession i f).msDue = s.msDue := rfl
@[simp] theorem State.modSession_windowDue (s : State) (i : SessionIx) (f : Session → Session) : (s.modSession i f).windowDue = s.windowDue := rfl
@[simp] theorem State.modSession_choices (s : State) (i : SessionIx) (f : Session → Session) : (s.modSession i f).choices = s.choices := rfl
@[simp] theorem State.modSession_pending (s : State) (i : SessionIx) (f : Session → Session) : (s.modSession i f).pending = s.pending := rfl

@[simp] theorem State.setSlot_time (s : State) (k : SlotIx) (x : Option Slot) : (s.setSlot k x).time = s.time := rfl
@[simp] theorem State.setSlot_sessions (s : State) (k : SlotIx) (x : Option Slot) : (s.setSlot k x).sessions = s.sessions := rfl
@[simp] theorem State.setSlot_setup (s : State) (k : SlotIx) (x : Option Slot) : (s.setSlot k x).setup = s.setup := rfl
@[simp] theorem State.setSlot_meter (s : State) (k : SlotIx) (x : Option Slot) : (s.setSlot k x).meter = s.meter := rfl
@[simp] theorem State.setSlot_alloc (s : State) (k : SlotIx) (x : Option Slot) : (s.setSlot k x).alloc = s.alloc := rfl
@[simp] theorem State.setSlot_control (s : State) (k : SlotIx) (x : Option Slot) : (s.setSlot k x).control = s.control := rfl
@[simp] theorem State.setSlot_path (s : State) (k : SlotIx) (x : Option Slot) : (s.setSlot k x).path = s.path := rfl
@[simp] theorem State.setSlot_flows (s : State) (k : SlotIx) (x : Option Slot) : (s.setSlot k x).flows = s.flows := rfl
@[simp] theorem State.setSlot_resetAsserted (s : State) (k : SlotIx) (x : Option Slot) : (s.setSlot k x).resetAsserted = s.resetAsserted := rfl
@[simp] theorem State.setSlot_msDue (s : State) (k : SlotIx) (x : Option Slot) : (s.setSlot k x).msDue = s.msDue := rfl
@[simp] theorem State.setSlot_windowDue (s : State) (k : SlotIx) (x : Option Slot) : (s.setSlot k x).windowDue = s.windowDue := rfl
@[simp] theorem State.setSlot_choices (s : State) (k : SlotIx) (x : Option Slot) : (s.setSlot k x).choices = s.choices := rfl
@[simp] theorem State.setSlot_pending (s : State) (k : SlotIx) (x : Option Slot) : (s.setSlot k x).pending = s.pending := rfl

@[simp] theorem State.removeAsk_time (s : State) (i : SessionIx) : (s.removeAsk i).time = s.time := rfl
@[simp] theorem State.removeAsk_sessions (s : State) (i : SessionIx) : (s.removeAsk i).sessions = s.sessions := rfl
@[simp] theorem State.removeAsk_setup (s : State) (i : SessionIx) : (s.removeAsk i).setup = s.setup := rfl
@[simp] theorem State.removeAsk_meter (s : State) (i : SessionIx) : (s.removeAsk i).meter = s.meter := rfl
@[simp] theorem State.removeAsk_alloc (s : State) (i : SessionIx) : (s.removeAsk i).alloc = s.alloc := rfl
@[simp] theorem State.removeAsk_control (s : State) (i : SessionIx) : (s.removeAsk i).control = s.control := rfl
@[simp] theorem State.removeAsk_path (s : State) (i : SessionIx) : (s.removeAsk i).path = s.path := rfl
@[simp] theorem State.removeAsk_flows (s : State) (i : SessionIx) : (s.removeAsk i).flows = s.flows := rfl
@[simp] theorem State.removeAsk_resetAsserted (s : State) (i : SessionIx) : (s.removeAsk i).resetAsserted = s.resetAsserted := rfl
@[simp] theorem State.removeAsk_msDue (s : State) (i : SessionIx) : (s.removeAsk i).msDue = s.msDue := rfl
@[simp] theorem State.removeAsk_windowDue (s : State) (i : SessionIx) : (s.removeAsk i).windowDue = s.windowDue := rfl
@[simp] theorem State.removeAsk_choices (s : State) (i : SessionIx) : (s.removeAsk i).choices = s.choices := rfl
@[simp] theorem State.removeAsk_pending (s : State) (i : SessionIx) : (s.removeAsk i).pending = s.pending := rfl

@[simp] theorem State.raiseOn_time (s : State) (i : SessionIx) (c : Cause) : (s.raiseOn i c).time = s.time := rfl
@[simp] theorem State.raiseOn_gate (s : State) (i : SessionIx) (c : Cause) : (s.raiseOn i c).gate = s.gate := rfl
@[simp] theorem State.raiseOn_setup (s : State) (i : SessionIx) (c : Cause) : (s.raiseOn i c).setup = s.setup := rfl
@[simp] theorem State.raiseOn_meter (s : State) (i : SessionIx) (c : Cause) : (s.raiseOn i c).meter = s.meter := rfl
@[simp] theorem State.raiseOn_alloc (s : State) (i : SessionIx) (c : Cause) : (s.raiseOn i c).alloc = s.alloc := rfl
@[simp] theorem State.raiseOn_control (s : State) (i : SessionIx) (c : Cause) : (s.raiseOn i c).control = s.control := rfl
@[simp] theorem State.raiseOn_path (s : State) (i : SessionIx) (c : Cause) : (s.raiseOn i c).path = s.path := rfl
@[simp] theorem State.raiseOn_flows (s : State) (i : SessionIx) (c : Cause) : (s.raiseOn i c).flows = s.flows := rfl
@[simp] theorem State.raiseOn_resetAsserted (s : State) (i : SessionIx) (c : Cause) : (s.raiseOn i c).resetAsserted = s.resetAsserted := rfl
@[simp] theorem State.raiseOn_msDue (s : State) (i : SessionIx) (c : Cause) : (s.raiseOn i c).msDue = s.msDue := rfl
@[simp] theorem State.raiseOn_windowDue (s : State) (i : SessionIx) (c : Cause) : (s.raiseOn i c).windowDue = s.windowDue := rfl
@[simp] theorem State.raiseOn_choices (s : State) (i : SessionIx) (c : Cause) : (s.raiseOn i c).choices = s.choices := rfl
@[simp] theorem State.raiseOn_pending (s : State) (i : SessionIx) (c : Cause) : (s.raiseOn i c).pending = s.pending := rfl

@[simp] theorem State.raiseDevice_time (s : State) (c : Cause) : (s.raiseDevice c).time = s.time := rfl
@[simp] theorem State.raiseDevice_sessions (s : State) (c : Cause) : (s.raiseDevice c).sessions = s.sessions := rfl
@[simp] theorem State.raiseDevice_gate (s : State) (c : Cause) : (s.raiseDevice c).gate = s.gate := rfl
@[simp] theorem State.raiseDevice_setup (s : State) (c : Cause) : (s.raiseDevice c).setup = s.setup := rfl
@[simp] theorem State.raiseDevice_meter (s : State) (c : Cause) : (s.raiseDevice c).meter = s.meter := rfl
@[simp] theorem State.raiseDevice_alloc (s : State) (c : Cause) : (s.raiseDevice c).alloc = s.alloc := rfl
@[simp] theorem State.raiseDevice_path (s : State) (c : Cause) : (s.raiseDevice c).path = s.path := rfl
@[simp] theorem State.raiseDevice_flows (s : State) (c : Cause) : (s.raiseDevice c).flows = s.flows := rfl
@[simp] theorem State.raiseDevice_resetAsserted (s : State) (c : Cause) : (s.raiseDevice c).resetAsserted = s.resetAsserted := rfl
@[simp] theorem State.raiseDevice_msDue (s : State) (c : Cause) : (s.raiseDevice c).msDue = s.msDue := rfl
@[simp] theorem State.raiseDevice_windowDue (s : State) (c : Cause) : (s.raiseDevice c).windowDue = s.windowDue := rfl
@[simp] theorem State.raiseDevice_choices (s : State) (c : Cause) : (s.raiseDevice c).choices = s.choices := rfl
@[simp] theorem State.raiseDevice_pending (s : State) (c : Cause) : (s.raiseDevice c).pending = s.pending := rfl

@[simp] theorem State.dropReportNote_time (s : State) : (s.dropReportNote).time = s.time := rfl
@[simp] theorem State.dropReportNote_sessions (s : State) : (s.dropReportNote).sessions = s.sessions := rfl
@[simp] theorem State.dropReportNote_gate (s : State) : (s.dropReportNote).gate = s.gate := rfl
@[simp] theorem State.dropReportNote_setup (s : State) : (s.dropReportNote).setup = s.setup := rfl
@[simp] theorem State.dropReportNote_meter (s : State) : (s.dropReportNote).meter = s.meter := rfl
@[simp] theorem State.dropReportNote_alloc (s : State) : (s.dropReportNote).alloc = s.alloc := rfl
@[simp] theorem State.dropReportNote_control (s : State) : (s.dropReportNote).control = s.control := rfl
@[simp] theorem State.dropReportNote_flows (s : State) : (s.dropReportNote).flows = s.flows := rfl
@[simp] theorem State.dropReportNote_resetAsserted (s : State) : (s.dropReportNote).resetAsserted = s.resetAsserted := rfl
@[simp] theorem State.dropReportNote_msDue (s : State) : (s.dropReportNote).msDue = s.msDue := rfl
@[simp] theorem State.dropReportNote_windowDue (s : State) : (s.dropReportNote).windowDue = s.windowDue := rfl
@[simp] theorem State.dropReportNote_choices (s : State) : (s.dropReportNote).choices = s.choices := rfl
@[simp] theorem State.dropReportNote_pending (s : State) : (s.dropReportNote).pending = s.pending := rfl

@[simp] theorem State.modSession_session_self (s : State) (i : SessionIx) (f : Session → Session) :
    (s.modSession i f).session i = f (s.session i) := by
  simp [State.modSession, State.session]

@[simp] theorem State.modSession_session_ne (s : State) (i j : SessionIx) (f : Session → Session) (h : j ≠ i) :
    (s.modSession i f).session j = s.session j := by
  have h' : i.val ≠ j.val := fun e => h (Fin.ext e.symm)
  simp [State.modSession, State.session, h']

/-- One record after a change of one record. -/
theorem State.modSession_session (s : State) (i j : SessionIx) (f : Session → Session) :
    (s.modSession i f).session j = if j = i then f (s.session j) else s.session j := by
  split
  · next h => subst h; simp
  · next h => simp [h]

@[simp] theorem State.modSession_slot (s : State) (i : SessionIx) (f : Session → Session) (k : SlotIx) :
    (s.modSession i f).slot k = s.slot k := rfl

@[simp] theorem State.setSlot_slot_self (s : State) (k : SlotIx) (x : Option Slot) : (s.setSlot k x).slot k = x := by
  simp [State.setSlot, State.slot]

@[simp] theorem State.setSlot_slot_ne (s : State) (k m : SlotIx) (x : Option Slot) (h : m ≠ k) :
    (s.setSlot k x).slot m = s.slot m := by
  have h' : k.val ≠ m.val := fun e => h (Fin.ext e.symm)
  simp [State.setSlot, State.slot, h']

@[simp] theorem State.setSlot_session (s : State) (k : SlotIx) (x : Option Slot) (i : SessionIx) :
    (s.setSlot k x).session i = s.session i := rfl

@[simp] theorem State.setSlot_askQueue (s : State) (k : SlotIx) (x : Option Slot) :
    (s.setSlot k x).gate.askQueue = s.gate.askQueue := rfl

@[simp] theorem State.setSlot_spacingHold (s : State) (k : SlotIx) (x : Option Slot) :
    (s.setSlot k x).gate.spacingHold = s.gate.spacingHold := rfl

@[simp] theorem State.removeAsk_session (s : State) (i j : SessionIx) : (s.removeAsk i).session j = s.session j := rfl

@[simp] theorem State.removeAsk_slot (s : State) (i : SessionIx) (k : SlotIx) : (s.removeAsk i).slot k = s.slot k := rfl

@[simp] theorem State.raiseOn_slot (s : State) (i : SessionIx) (c : Cause) (k : SlotIx) :
    (s.raiseOn i c).slot k = s.slot k := rfl

@[simp] theorem State.raiseDevice_session (s : State) (c : Cause) (i : SessionIx) :
    (s.raiseDevice c).session i = s.session i := rfl

@[simp] theorem State.raiseDevice_claim (s : State) (c : Cause) : (s.raiseDevice c).control.claim = s.control.claim := rfl

@[simp] theorem State.dropReportNote_session (s : State) (i : SessionIx) : s.dropReportNote.session i = s.session i := rfl

/-- Two vectors of session records are equal when the states agree on every session. -/
theorem State.sessions_ext {s t : State} (h : ∀ i, s.session i = t.session i) : s.sessions = t.sessions := by
  apply Vector.ext
  intro i hi
  exact h ⟨i, hi⟩

/-- Two slot tables are equal when the states agree on every slot. -/
theorem State.slots_ext {s t : State} (h : ∀ k, s.slot k = t.slot k) : s.gate.slots = t.gate.slots := by
  apply Vector.ext
  intro k hk
  exact h ⟨k, hk⟩

/-- A change of a record that gives it the value it has changes nothing. -/
theorem State.modSession_eq_self (s : State) (i : SessionIx) (f : Session → Session) (h : f (s.session i) = s.session i) :
    s.modSession i f = s := by
  have : (s.modSession i f).sessions = s.sessions := State.sessions_ext fun j => by
    rw [State.modSession_session]; split
    · next e => rw [e, h]
    · rfl
  cases s
  simp only [State.modSession, State.mk.injEq] at this ⊢
  simp_all

end Sys2Proof.Machine
end

