-- ==== Sys2Proof/Laws/Frames.lean ====
section
/-! SUPPORT. What each shared operation can change, once for each: RecordsOnly for those that change session records,
SharesOnly for those that also set the allocation, GateWork for those that also move asks, slots and reports. -/

namespace Sys2Proof.Machine

/-- Only session records differ. -/
def RecordsOnly (s t : State) : Prop := t = { s with sessions := t.sessions }

/-- Only session records and the allocation differ. -/
def SharesOnly (s t : State) : Prop := t = { s with sessions := t.sessions, alloc := t.alloc }

/-- Only session records, the allocation, the fetch gate and the report queue with its counter differ. -/
def GateWork (s t : State) : Prop :=
  t = { s with sessions := t.sessions, alloc := t.alloc, gate := t.gate
               path.reportQueue := t.path.reportQueue
               path.reportNotesDropped := t.path.reportNotesDropped }

theorem RecordsOnly.refl (s : State) : RecordsOnly s s := rfl

theorem RecordsOnly.trans {s t u : State} (h : RecordsOnly s t) (k : RecordsOnly t u) : RecordsOnly s u := by
  unfold RecordsOnly at *; rw [k, h]

theorem SharesOnly.refl (s : State) : SharesOnly s s := rfl

theorem SharesOnly.trans {s t u : State} (h : SharesOnly s t) (k : SharesOnly t u) : SharesOnly s u := by
  unfold SharesOnly at *; rw [k, h]

theorem GateWork.refl (s : State) : GateWork s s := rfl

theorem GateWork.trans {s t u : State} (h : GateWork s t) (k : GateWork t u) : GateWork s u := by
  unfold GateWork at *; rw [k, h]

theorem RecordsOnly.shares {s t : State} (h : RecordsOnly s t) : SharesOnly s t := by
  unfold RecordsOnly SharesOnly at *; rw [h]

theorem SharesOnly.gate {s t : State} (h : SharesOnly s t) : GateWork s t := by
  unfold SharesOnly GateWork at *; rw [h]

theorem RecordsOnly.ite {s t u : State} {c : Prop} [Decidable c] (h : RecordsOnly s t) (k : RecordsOnly s u) :
    RecordsOnly s (if c then t else u) := by
  split <;> assumption

theorem SharesOnly.ite {s t u : State} {c : Prop} [Decidable c] (h : SharesOnly s t) (k : SharesOnly s u) :
    SharesOnly s (if c then t else u) := by
  split <;> assumption

theorem GateWork.ite {s t u : State} {c : Prop} [Decidable c] (h : GateWork s t) (k : GateWork s u) :
    GateWork s (if c then t else u) := by
  split <;> assumption

theorem RecordsOnly.gate {s t : State} (h : RecordsOnly s t) : GateWork s t := h.shares.gate

/-- A fold of steps that each keep a reflexive and transitive relation keeps it. -/
theorem foldl_related {α : Type} (R : State → State → Prop) (refl : ∀ s, R s s) (trans : ∀ {s t u}, R s t → R t u → R s u)
    (f : State → α → State) (step : ∀ s a, R s (f s a)) (l : List α) (s : State) : R s (l.foldl f s) := by
  induction l generalizing s with
  | nil => exact refl s
  | cons a l ih => exact trans (step s a) (ih (f s a))

theorem RecordsOnly.foldl {α : Type} (f : State → α → State) (step : ∀ s a, RecordsOnly s (f s a)) (l : List α)
    (s : State) : RecordsOnly s (l.foldl f s) :=
  foldl_related RecordsOnly RecordsOnly.refl RecordsOnly.trans f step l s

theorem GateWork.foldl {α : Type} (f : State → α → State) (step : ∀ s a, GateWork s (f s a)) (l : List α)
    (s : State) : GateWork s (l.foldl f s) :=
  foldl_related GateWork GateWork.refl GateWork.trans f step l s

theorem SharesOnly.foldl {α : Type} (f : State → α → State) (step : ∀ s a, SharesOnly s (f s a)) (l : List α)
    (s : State) : SharesOnly s (l.foldl f s) :=
  foldl_related SharesOnly SharesOnly.refl SharesOnly.trans f step l s

theorem State.modSession_records (s : State) (i : SessionIx) (f : Session → Session) : RecordsOnly s (s.modSession i f) :=
  rfl

theorem State.raiseOn_records (s : State) (i : SessionIx) (c : Cause) : RecordsOnly s (s.raiseOn i c) := rfl

theorem State.derive_records (s : State) (l : SessionIx) (e : FollowerEntry) : RecordsOnly s (s.derive l e) := by
  unfold State.derive; repeat' split
  all_goals rfl

theorem State.deriveAll_records (s : State) (l : SessionIx) : RecordsOnly s (s.deriveAll l) :=
  RecordsOnly.foldl _ (fun s e => s.derive_records l e) _ _

theorem State.moveRung_records (s : State) (i : SessionIx) (k : Nat) : RecordsOnly s (s.moveRung i k) := by
  unfold State.moveRung; split
  · rfl
  · exact (s.modSession_records i _).trans (State.deriveAll_records _ _)

theorem State.lowerToAllowed_records (s : State) (i : SessionIx) : RecordsOnly s (s.lowerToAllowed i) := by
  unfold State.lowerToAllowed; simp only []; repeat' split
  all_goals first | rfl | exact s.moveRung_records _ _

theorem State.applyVerdict_records (s : State) (i : SessionIx) (v : Nat) : RecordsOnly s (s.applyVerdict i v) := by
  unfold State.applyVerdict; split
  · rfl
  · exact (s.moveRung_records i v).trans (State.modSession_records _ _ _)

theorem State.judge_records (s : State) (i : SessionIx) : RecordsOnly s (s.judge i) := s.applyVerdict_records _ _

theorem State.toFallback_records (s : State) (i : SessionIx) : RecordsOnly s (s.toFallback i) :=
  ((s.modSession_records _ _).trans (State.deriveAll_records _ _)).trans (State.modSession_records _ _ _)

theorem State.resync_records (s : State) (h t : SessionIx) : RecordsOnly s (s.resync h t) := by
  unfold State.resync; simp only []
  split <;> exact (((s.modSession_records _ _).trans (State.toFallback_records _ _)).trans
    (State.modSession_records _ _ _)).trans (State.raiseOn_records _ _ _)

theorem State.takeSample_records (s : State) (i : SessionIx) (x : Slot) : RecordsOnly s (s.takeSample i x) := by
  unfold State.takeSample; split <;> rfl

theorem State.tellGrant_records (s : State) (i : SessionIx) : RecordsOnly s (s.tellGrant i) := by
  unfold State.tellGrant; simp only []; repeat' split
  all_goals rfl

theorem State.tellFlush_records (s : State) (i : SessionIx) : RecordsOnly s (s.tellFlush i) := by
  unfold State.tellFlush; repeat' split
  all_goals rfl

theorem State.tellCompletion_records (s : State) (i : SessionIx) (b : Bool) : RecordsOnly s (s.tellCompletion i b) := by
  unfold State.tellCompletion; split <;> rfl

theorem State.setDrainTimers_records (s : State) : RecordsOnly s s.setDrainTimers := by
  unfold State.setDrainTimers; apply RecordsOnly.foldl; intro t i; rfl

theorem State.giveShares_records (s : State) (c : List ShareClaim) (p : List (SessionIx × Nat)) :
    RecordsOnly s (s.giveShares c p) := by
  unfold State.giveShares; apply RecordsOnly.foldl; intro t i; rfl

theorem State.recompute_shares (s : State) : SharesOnly s s.recompute := by
  have h := s.giveShares_records s.shareClaims (divide s.allocatable s.shareClaims)
  unfold SharesOnly State.recompute
  simp only []
  rw [h]

theorem State.clearWindows_records (s : State) : RecordsOnly s s.clearWindows := by
  unfold State.clearWindows; apply RecordsOnly.foldl; intro t i; rfl

theorem State.clearCauses_records (s : State) (i : SessionIx) : RecordsOnly s (s.clearCauses i) := rfl

theorem State.copyProfile_records (s : State) (l f : SessionIx) : RecordsOnly s (s.copyProfile l f) := by
  unfold State.copyProfile; split <;> rfl

theorem State.copyToFollowers_records (s : State) (l : SessionIx) : RecordsOnly s (s.copyToFollowers l) := by
  unfold State.copyToFollowers; apply RecordsOnly.foldl; intro t e; exact t.copyProfile_records l e.index

theorem State.deriveFollower_records (s : State) (l f : SessionIx) : RecordsOnly s (s.deriveFollower l f) := by
  unfold State.deriveFollower; split
  · rfl
  · exact s.derive_records _ _

theorem State.bind_records (s : State) (l f : SessionIx) (m : Option (List Nat)) : RecordsOnly s (s.bind l f m) := by
  unfold State.bind; simp only []
  split
  · exact (s.modSession_records _ _).trans (State.deriveFollower_records _ _ _)
  · exact ((s.modSession_records _ _).trans (State.modSession_records _ _ _)).trans (State.deriveFollower_records _ _ _)

theorem State.leaveLeader_records (s : State) (l f : SessionIx) : RecordsOnly s (s.leaveLeader l f) := rfl

theorem State.release_records (s : State) (l f : SessionIx) : RecordsOnly s (s.release l f) := rfl

theorem State.releaseAll_records (s : State) (l : SessionIx) : RecordsOnly s (s.releaseAll l) := by
  unfold State.releaseAll; apply RecordsOnly.foldl; intro t e; exact t.release_records l e.index

theorem State.dissolve_records (s : State) (i : SessionIx) : RecordsOnly s (s.dissolve i) := by
  unfold State.dissolve; split
  · rfl
  · exact s.releaseAll_records i
  · rfl

theorem State.overdraw_shares (s : State) (i : SessionIx) : SharesOnly s (s.overdraw i) := by
  unfold State.overdraw
  extract_lets x capped lowered held
  have hc : RecordsOnly s capped := s.modSession_records _ _
  have hl : RecordsOnly s lowered := RecordsOnly.ite (hc.trans (capped.moveRung_records _ _)) hc
  have hh : RecordsOnly s held := hl.trans (lowered.modSession_records _ _)
  exact (hh.trans (held.raiseOn_records _ _)).shares.trans (State.recompute_shares _)

theorem State.setSlot_gateWork (s : State) (k : SlotIx) (x : Option Slot) : GateWork s (s.setSlot k x) := rfl

theorem State.removeAsk_gateWork (s : State) (i : SessionIx) : GateWork s (s.removeAsk i) := rfl

theorem State.beginReport_gateWork (s : State) (f : ReportFrame) : GateWork s (s.beginReport f).1 := by
  unfold State.beginReport; split <;> rfl

theorem State.originate_gateWork (s : State) (n : OutNote) : GateWork s (s.originate n).1 := by
  unfold State.originate; repeat' split
  all_goals first | rfl | exact s.beginReport_gateWork _

theorem State.releaseSlots_gateWork (s : State) (i : SessionIx) : GateWork s (s.releaseSlots i) := by
  unfold State.releaseSlots; apply GateWork.foldl; intro t p; rfl

theorem State.fillSlot_gateWork (s : State) (a : Ask) (k : SlotIx) (t : Byte) : GateWork s (s.fillSlot a k t) := rfl

theorem State.grant_gateWork (s : State) (a : Ask) : GateWork s (s.grant a) := by
  unfold State.grant
  extract_lets judged tag
  have hj : GateWork s judged := (s.removeAsk_gateWork _).trans (State.judge_records _ _).gate
  split
  · exact hj
  · extract_lets filled
    have hf : GateWork s filled := hj.trans (judged.fillSlot_gateWork _ _ _)
    exact (hf.trans (filled.tellGrant_records _).gate).trans (State.originate_gateWork _ _)

theorem State.grantLoop_gateWork (n : Nat) (s : State) : GateWork s (State.grantLoop n s) := by
  induction n generalizing s with
  | zero => rfl
  | succ n ih =>
    unfold State.grantLoop; split
    · rfl
    · split
      · exact (s.grant_gateWork _).trans (ih _)
      · exact s.grant_gateWork _

theorem State.examine_gateWork (s : State) : GateWork s s.examine :=
  (State.grantLoop_gateWork _ s).trans (State.setDrainTimers_records _).gate

theorem State.attributeBytes_gateWork (s : State) (i : SessionIx) (n : Nat) : GateWork s (s.attributeBytes i n) := by
  unfold State.attributeBytes; split <;> rfl

theorem State.advise_gateWork (s : State) (i : SessionIx) (t : Byte) : GateWork s (s.advise i t) :=
  s.originate_gateWork _

theorem State.missDeadline_gateWork (s : State) (k : SlotIx) (x : Slot) : GateWork s (s.missDeadline k x) := by
  unfold State.missDeadline
  extract_lets holder marked counted told
  have hm : GateWork s marked := s.setSlot_gateWork _ _
  have hc : GateWork s counted :=
    (hm.trans (marked.modSession_records _ _).gate).trans (State.modSession_records _ _ _).gate
  have hj : GateWork s (counted.judge x.session) := hc.trans (counted.judge_records _).gate
  have ha : GateWork s ((counted.judge x.session).advise x.session x.tag) := hj.trans (State.advise_gateWork _ _ _)
  have ht : GateWork s told := ha.trans (State.raiseOn_records _ _ _).gate
  exact GateWork.ite (ht.trans (told.resync_records _ _).gate) ht

theorem State.completeFetch_records (s : State) (x : Slot) : RecordsOnly s (s.completeFetch x) := by
  unfold State.completeFetch
  extract_lets i credited sampled counted cleared
  have hc : RecordsOnly s credited := s.modSession_records _ _
  have hs : RecordsOnly s sampled := hc.trans (credited.takeSample_records _ _)
  have ht : RecordsOnly s counted := hs.trans (sampled.modSession_records _ _)
  have hl : RecordsOnly s cleared := RecordsOnly.ite ht (ht.trans (counted.modSession_records _ _))
  exact hl.trans (cleared.tellCompletion_records _ _)

theorem State.expireSlot_gateWork (s : State) (k : SlotIx) (x : Slot) : GateWork s (s.expireSlot k x) := by
  unfold State.expireSlot
  extract_lets freed
  have hf : GateWork s freed := (s.setSlot_gateWork k none).trans (State.modSession_records _ _ _).gate
  exact (hf.trans (freed.raiseOn_records _ _).gate).trans (State.examine_gateWork _)

theorem State.prime_gateWork (s : State) (i : SessionIx) (p : Profile) : GateWork s (s.prime i p) :=
  (s.modSession_records _ _).gate.trans (State.examine_gateWork _)

theorem State.reprofile_gateWork (s : State) (i : SessionIx) (p : Profile) : GateWork s (s.reprofile i p) := by
  unfold State.reprofile
  extract_lets x y stored raised copied shared
  have hs : RecordsOnly s stored := s.modSession_records _ _
  have hr : RecordsOnly s raised := RecordsOnly.ite (hs.trans (stored.raiseOn_records _ _)) hs
  have hc : RecordsOnly s copied := (hr.trans (raised.lowerToAllowed_records i)).trans (State.copyToFollowers_records _ i)
  have hh : SharesOnly s shared := SharesOnly.ite (hc.shares.trans copied.recompute_shares) hc.shares
  exact GateWork.ite (hh.gate.trans shared.examine_gateWork) hh.gate

theorem State.firstRung_records (s : State) (i : SessionIx) : RecordsOnly s (s.firstRung i) := by
  have h := s.modSession_records i fun x => { x with rung := some x.ladder.lowest }
  unfold State.firstRung; simp only []
  repeat' split
  all_goals first
    | exact s.deriveFollower_records _ _
    | exact h
    | exact (h.trans (State.deriveAll_records _ _)).trans (State.modSession_records _ _ _)

theorem State.carryRungs_records (s : State) (i : SessionIx) (old : Ladder) : RecordsOnly s (s.carryRungs i old) := by
  have h := s.modSession_records i fun x => x.remapped old
  unfold State.carryRungs
  repeat' split
  all_goals first
    | exact s.deriveFollower_records _ _
    | exact h
    | exact h.trans (State.deriveAll_records _ _)

theorem State.reformMap_records (s : State) (i : SessionIx) : RecordsOnly s (s.reformMap i) := by
  unfold State.reformMap; split <;> rfl

theorem State.publish_shares (s : State) (i : SessionIx) (l : Ladder) : SharesOnly s (s.publish i l) := by
  unfold State.publish
  extract_lets x stored carried
  have hs : RecordsOnly s stored := (s.modSession_records _ _).trans (State.reformMap_records _ i)
  have hc : RecordsOnly s carried :=
    RecordsOnly.ite (hs.trans (stored.carryRungs_records _ _)) (hs.trans (stored.firstRung_records _))
  exact (hc.trans (carried.modSession_records _ _)).shares.trans (State.recompute_shares _)

theorem State.playReport_gateWork (s : State) (i : SessionIx) (n : PlayNote) : GateWork s (s.playReport i n) := by
  unfold State.playReport
  extract_lets x y stored lowered shared
  have hs : RecordsOnly s stored := s.modSession_records _ _
  have hl : RecordsOnly s lowered := RecordsOnly.ite hs (hs.trans (stored.lowerToAllowed_records _))
  have hh : SharesOnly s shared := SharesOnly.ite hl.shares (hl.shares.trans lowered.recompute_shares)
  exact GateWork.ite (hh.gate.trans shared.examine_gateWork) hh.gate

theorem State.queueAsk_gateWork (s : State) (i : SessionIx) (n : AskNote) : GateWork s (s.queueAsk i n) := by
  unfold State.queueAsk
  extract_lets flushed
  have h0 := s.modSession_records i fun x => x.anchorAt s.time 0
  have h1 := h0.gate.trans (State.releaseSlots_gateWork _ i)
  have hf : GateWork s flushed := GateWork.ite (h1.trans (State.tellFlush_records _ i).gate) (GateWork.refl s)
  have hq := hf.trans (show GateWork flushed { flushed with gate.askQueue := flushed.gate.askQueue ++
    [{ session := i, segment := n.segment, duration := n.clampedDuration, flush := n.flush, arrival := s.time }] } from rfl)
  exact hq.trans (State.examine_gateWork _)

theorem State.resetSession_gateWork (s : State) (i : SessionIx) (a : Admin) : GateWork s (s.resetSession i a) := by
  unfold State.resetSession
  extract_lets x emptied cleared shared
  have he : GateWork s emptied :=
    ((s.dissolve_records i).gate.trans (State.releaseSlots_gateWork _ i)).trans (State.removeAsk_gateWork _ i)
  have hc : GateWork s cleared := he.trans (emptied.modSession_records _ _).gate
  have hs : GateWork s shared := GateWork.ite (hc.trans cleared.recompute_shares.gate) hc
  exact GateWork.ite hs (hs.trans shared.examine_gateWork)

theorem State.tether_gateWork (s : State) (l f : SessionIx) (m : Option (List Nat)) : GateWork s (s.tether l f m) := by
  unfold State.tether
  extract_lets t
  have h : SharesOnly s t := (s.bind_records l f m).shares.trans (State.recompute_shares _)
  exact GateWork.ite h.gate (h.gate.trans t.examine_gateWork)

theorem State.rearm_shares (s : State) (i : SessionIx) : SharesOnly s (s.rearm i) := by
  unfold State.rearm
  extract_lets x t
  have h : SharesOnly s t := (s.modSession_records _ _).shares
  have k := SharesOnly.ite (c := (x.draw.cap.isSome && x.isContender) = true) (h.trans t.recompute_shares) h
  split
  · exact SharesOnly.refl s
  all_goals exact k

end Sys2Proof.Machine
end

