-- ==== Sys2Proof/WellFormed.lean ====
section
/-! DEFINITION. Which commands the layouts of R169 and the ports can deliver: every numeric field fits its width, a frame
holds its two addresses and its type field, an UNKNOWN_NOTE names no note of R169 that the part executes, and a draw
window's order names no contender twice. exec does not rest on it: an ill-formed command has a meaning too. -/

namespace Sys2Proof

/-- The value fits a field of one octet (R169). -/
def fitsByte (n : Nat) : Bool := decide (n < 256)

/-- The value fits a field of two octets (R169). -/
def fitsHalf (n : Nat) : Bool := decide (n < 65536)

/-- The value fits a field of four octets (R169). -/
def fitsWord (n : Nat) : Bool := decide (n < 4294967296)

/-- An optional field is absent or fits. -/
def optFits (fits : Nat → Bool) (o : Option Nat) : Bool := o.all fits

/-- A three-valued field fits when it carries no value or a value that fits. -/
def givenFits (fits : Nat → Bool) : Given Nat → Bool
  | .omitted => true
  | .absent => true
  | .value a => fits a

/-- A frame holds at least its destination address, source address and type field (R162). -/
def Frame.WellFormed (f : Frame) : Bool := decide (14 ≤ f.bytes.length)

/-- The widths of SETUP's fields (R169). -/
def SetupNote.WellFormed (n : SetupNote) : Bool :=
  optFits fitsWord n.linkFloor && optFits fitsByte n.margin && optFits fitsByte n.maxOutstanding &&
  optFits fitsByte n.grantSpacing && optFits fitsByte n.high && optFits fitsByte n.mid && optFits fitsByte n.low &&
  optFits fitsWord n.wA && optFits fitsWord n.wB && optFits fitsWord n.wS && optFits fitsWord n.wM &&
  optFits fitsHalf n.idleLimit

/-- The widths of PROFILE's fields (R169). -/
def ProfileNote.WellFormed (n : ProfileNote) : Bool :=
  fitsByte n.session && optFits fitsByte n.weight && givenFits fitsByte n.uplinkPriority &&
  optFits fitsWord n.bufferTarget && optFits fitsWord n.lowGuard && optFits fitsWord n.panicLevel &&
  optFits fitsWord n.upHold && givenFits fitsWord n.freshnessLimit && optFits fitsByte n.stallThreshold &&
  optFits fitsByte n.outstandingLimit && optFits fitsByte n.retryLimit && optFits fitsWord n.retryInterval &&
  optFits fitsByte n.initialSpeed && optFits fitsByte n.defaultCeiling

/-- The widths of LADDER LOAD's fields, and a record count of one octet (R169). -/
def LadderNote.WellFormed (n : LadderNote) : Bool :=
  fitsByte n.session && fitsByte n.first && fitsByte n.records.length &&
  n.records.all (fun r => fitsWord r.bitrate) && optFits fitsByte n.rungCount && optFits fitsByte n.fallback

/-- The widths of TETHER's fields, and an entry count of one octet (R169). -/
def TetherNote.WellFormed (n : TetherNote) : Bool :=
  fitsByte n.leader && fitsByte n.follower && n.map.all (fun m => fitsByte m.length && m.all fitsByte)

/-- The widths of PLAY's fields (R169). -/
def PlayNote.WellFormed (n : PlayNote) : Bool :=
  fitsByte n.session && optFits fitsWord n.level && optFits fitsByte n.ceiling && optFits fitsWord n.target &&
  optFits fitsByte n.speed

/-- The command can be delivered by the ports and the layouts of R169. -/
def Instr.WellFormed : Instr → Bool
  | .powerOn => true
  | .resetInput => true
  | .resetInputRelease => true
  | .lineCarrierUp => true
  | .lineCarrierDown => true
  | .stationCarrierEvent _ => true
  | .downlinkFrame f => f.WellFormed
  | .uplinkFrame f => f.WellFormed
  | .controlFrame f => f.WellFormed
  | .batch => true
  | .claim _ => true
  | .setup n => n.all SetupNote.WellFormed
  | .deviceStatus _ => true
  | .linkSnapshot _ => true
  | .linkRestart _ => true
  | .deviceReset _ => true
  | .deviceResetTaken => true
  | .openSession i => optFits fitsByte i
  | .sessionReset i => optFits fitsByte i
  | .closeSession i => optFits fitsByte i
  | .sessionStatus i => optFits fitsByte i
  | .profile n => n.all ProfileNote.WellFormed
  | .ladderLoad n => n.all LadderNote.WellFormed
  | .tether n => n.all TetherNote.WellFormed
  | .untether i => optFits fitsByte i
  | .rearm i => optFits fitsByte i
  | .flowBind n => n.all (fun a => fitsByte a.session)
  | .flowUnbind n => n.all (fun a => fitsByte a.session)
  | .askFetch n => n.all (fun a => fitsByte a.session && fitsWord a.duration)
  | .doneFetch n => n.all (fun a => fitsByte a.session)
  | .abortFetch n => n.all (fun a => fitsByte a.session)
  | .play n => n.all PlayNote.WellFormed
  | .unknownNote t => decide (t = 0#8) || decide (21 < t.toNat)
  | .stationTransmit => true
  | .lineTransmit => true
  | .linkSample => true
  | .emptyPoint _ => true
  | .freshnessTimerExpiry _ => true
  | .upHoldExpiry _ => true
  | .deadline _ => true
  | .expiry _ => true
  | .spacingHoldExpiry => true
  | .drainTimerExpiry _ => true
  | .drawWindow order => decide order.Nodup
  | .retryExpiry _ => true
  | .flowIdle _ => true
  | .busyMillisecond => true

end Sys2Proof
end

