-- ==== Sys2Proof/Laws/PerInstr.lean ====
section
/-! SUPPORT. One family of statements per command: WidthsKept says of each command, as syntax, that a well-formed one names a
session index and is answered under a note type that their octets hold (R169). -/

section

open Sys2Proof Sys2Proof.Machine

set_option Elab.async false

/-- A well-formed command names a session, if it names one, by an index of one octet, and is answered, if it is a note, under
one of the types 1 to 21 (R169). -/
def Sys2Proof.Laws.WidthsKept.Statement (c : Instr) : Prop :=
  c.WellFormed = true → (∀ n, namedSession c = some n → n < 256) ∧
    (∀ ty, noteTypeOf c = some ty → 1 ≤ ty.toNat ∧ ty.toNat ≤ 21)

theorem Sys2Proof.Laws.WidthsKept.powerOn :
    Sys2Proof.Laws.WidthsKept.Statement .powerOn := by
  simp [Sys2Proof.Laws.WidthsKept.Statement, namedSession, noteTypeOf]

theorem Sys2Proof.Laws.WidthsKept.resetInput :
    Sys2Proof.Laws.WidthsKept.Statement .resetInput := by
  simp [Sys2Proof.Laws.WidthsKept.Statement, namedSession, noteTypeOf]

theorem Sys2Proof.Laws.WidthsKept.resetInputRelease :
    Sys2Proof.Laws.WidthsKept.Statement .resetInputRelease := by
  simp [Sys2Proof.Laws.WidthsKept.Statement, namedSession, noteTypeOf]

theorem Sys2Proof.Laws.WidthsKept.lineCarrierUp :
    Sys2Proof.Laws.WidthsKept.Statement .lineCarrierUp := by
  simp [Sys2Proof.Laws.WidthsKept.Statement, namedSession, noteTypeOf]

theorem Sys2Proof.Laws.WidthsKept.lineCarrierDown :
    Sys2Proof.Laws.WidthsKept.Statement .lineCarrierDown := by
  simp [Sys2Proof.Laws.WidthsKept.Statement, namedSession, noteTypeOf]

theorem Sys2Proof.Laws.WidthsKept.stationCarrierEvent (up : Bool) :
    Sys2Proof.Laws.WidthsKept.Statement (.stationCarrierEvent up) := by
  simp [Sys2Proof.Laws.WidthsKept.Statement, namedSession, noteTypeOf]

theorem Sys2Proof.Laws.WidthsKept.downlinkFrame (f : Frame) :
    Sys2Proof.Laws.WidthsKept.Statement (.downlinkFrame f) := by
  simp [Sys2Proof.Laws.WidthsKept.Statement, namedSession, noteTypeOf]

theorem Sys2Proof.Laws.WidthsKept.uplinkFrame (f : Frame) :
    Sys2Proof.Laws.WidthsKept.Statement (.uplinkFrame f) := by
  simp [Sys2Proof.Laws.WidthsKept.Statement, namedSession, noteTypeOf]

theorem Sys2Proof.Laws.WidthsKept.controlFrame (f : Frame) :
    Sys2Proof.Laws.WidthsKept.Statement (.controlFrame f) := by
  simp [Sys2Proof.Laws.WidthsKept.Statement, namedSession, noteTypeOf]

theorem Sys2Proof.Laws.WidthsKept.batch :
    Sys2Proof.Laws.WidthsKept.Statement .batch := by
  simp [Sys2Proof.Laws.WidthsKept.Statement, namedSession, noteTypeOf]

theorem Sys2Proof.Laws.WidthsKept.claim (part : Option Addr) :
    Sys2Proof.Laws.WidthsKept.Statement (.claim part) := by
  simp [Sys2Proof.Laws.WidthsKept.Statement, namedSession, noteTypeOf]

theorem Sys2Proof.Laws.WidthsKept.setup (note : Option SetupNote) :
    Sys2Proof.Laws.WidthsKept.Statement (.setup note) := by
  simp [Sys2Proof.Laws.WidthsKept.Statement, namedSession, noteTypeOf]

theorem Sys2Proof.Laws.WidthsKept.deviceStatus (note : Option Unit) :
    Sys2Proof.Laws.WidthsKept.Statement (.deviceStatus note) := by
  simp [Sys2Proof.Laws.WidthsKept.Statement, namedSession, noteTypeOf]

theorem Sys2Proof.Laws.WidthsKept.linkSnapshot (note : Option Unit) :
    Sys2Proof.Laws.WidthsKept.Statement (.linkSnapshot note) := by
  simp [Sys2Proof.Laws.WidthsKept.Statement, namedSession, noteTypeOf]

theorem Sys2Proof.Laws.WidthsKept.linkRestart (note : Option Unit) :
    Sys2Proof.Laws.WidthsKept.Statement (.linkRestart note) := by
  simp [Sys2Proof.Laws.WidthsKept.Statement, namedSession, noteTypeOf]

theorem Sys2Proof.Laws.WidthsKept.deviceReset (note : Option Unit) :
    Sys2Proof.Laws.WidthsKept.Statement (.deviceReset note) := by
  simp [Sys2Proof.Laws.WidthsKept.Statement, namedSession, noteTypeOf]

theorem Sys2Proof.Laws.WidthsKept.deviceResetTaken :
    Sys2Proof.Laws.WidthsKept.Statement .deviceResetTaken := by
  simp [Sys2Proof.Laws.WidthsKept.Statement, namedSession, noteTypeOf]

theorem Sys2Proof.Laws.WidthsKept.openSession (session : Option Nat) :
    Sys2Proof.Laws.WidthsKept.Statement (.openSession session) := by
  cases session <;> simp [Sys2Proof.Laws.WidthsKept.Statement, Instr.WellFormed, namedSession, noteTypeOf, optFits, fitsByte]

theorem Sys2Proof.Laws.WidthsKept.sessionReset (session : Option Nat) :
    Sys2Proof.Laws.WidthsKept.Statement (.sessionReset session) := by
  cases session <;> simp [Sys2Proof.Laws.WidthsKept.Statement, Instr.WellFormed, namedSession, noteTypeOf, optFits, fitsByte]

theorem Sys2Proof.Laws.WidthsKept.closeSession (session : Option Nat) :
    Sys2Proof.Laws.WidthsKept.Statement (.closeSession session) := by
  cases session <;> simp [Sys2Proof.Laws.WidthsKept.Statement, Instr.WellFormed, namedSession, noteTypeOf, optFits, fitsByte]

theorem Sys2Proof.Laws.WidthsKept.sessionStatus (session : Option Nat) :
    Sys2Proof.Laws.WidthsKept.Statement (.sessionStatus session) := by
  cases session <;> simp [Sys2Proof.Laws.WidthsKept.Statement, Instr.WellFormed, namedSession, noteTypeOf, optFits, fitsByte]

theorem Sys2Proof.Laws.WidthsKept.profile (note : Option ProfileNote) :
    Sys2Proof.Laws.WidthsKept.Statement (.profile note) := by
  cases note <;>
    simp +contextual [Sys2Proof.Laws.WidthsKept.Statement, Instr.WellFormed, namedSession, noteTypeOf, ProfileNote.WellFormed, fitsByte]

theorem Sys2Proof.Laws.WidthsKept.ladderLoad (note : Option LadderNote) :
    Sys2Proof.Laws.WidthsKept.Statement (.ladderLoad note) := by
  cases note <;>
    simp +contextual [Sys2Proof.Laws.WidthsKept.Statement, Instr.WellFormed, namedSession, noteTypeOf, LadderNote.WellFormed, fitsByte,
      Option.filter]

theorem Sys2Proof.Laws.WidthsKept.tether (note : Option TetherNote) :
    Sys2Proof.Laws.WidthsKept.Statement (.tether note) := by
  simp [Sys2Proof.Laws.WidthsKept.Statement, namedSession, noteTypeOf]

theorem Sys2Proof.Laws.WidthsKept.untether (session : Option Nat) :
    Sys2Proof.Laws.WidthsKept.Statement (.untether session) := by
  cases session <;> simp [Sys2Proof.Laws.WidthsKept.Statement, Instr.WellFormed, namedSession, noteTypeOf, optFits, fitsByte]

theorem Sys2Proof.Laws.WidthsKept.rearm (session : Option Nat) :
    Sys2Proof.Laws.WidthsKept.Statement (.rearm session) := by
  cases session <;> simp [Sys2Proof.Laws.WidthsKept.Statement, Instr.WellFormed, namedSession, noteTypeOf, optFits, fitsByte]

theorem Sys2Proof.Laws.WidthsKept.flowBind (note : Option FlowNote) :
    Sys2Proof.Laws.WidthsKept.Statement (.flowBind note) := by
  cases note <;>
    simp +contextual [Sys2Proof.Laws.WidthsKept.Statement, Instr.WellFormed, namedSession, noteTypeOf, fitsByte]

theorem Sys2Proof.Laws.WidthsKept.flowUnbind (note : Option FlowNote) :
    Sys2Proof.Laws.WidthsKept.Statement (.flowUnbind note) := by
  cases note <;>
    simp +contextual [Sys2Proof.Laws.WidthsKept.Statement, Instr.WellFormed, namedSession, noteTypeOf, fitsByte]

theorem Sys2Proof.Laws.WidthsKept.askFetch (note : Option AskNote) :
    Sys2Proof.Laws.WidthsKept.Statement (.askFetch note) := by
  cases note <;>
    simp +contextual [Sys2Proof.Laws.WidthsKept.Statement, Instr.WellFormed, namedSession, noteTypeOf, fitsByte]

theorem Sys2Proof.Laws.WidthsKept.doneFetch (note : Option DoneNote) :
    Sys2Proof.Laws.WidthsKept.Statement (.doneFetch note) := by
  cases note <;>
    simp +contextual [Sys2Proof.Laws.WidthsKept.Statement, Instr.WellFormed, namedSession, noteTypeOf, fitsByte]

theorem Sys2Proof.Laws.WidthsKept.abortFetch (note : Option AbortNote) :
    Sys2Proof.Laws.WidthsKept.Statement (.abortFetch note) := by
  cases note <;>
    simp +contextual [Sys2Proof.Laws.WidthsKept.Statement, Instr.WellFormed, namedSession, noteTypeOf, fitsByte]

theorem Sys2Proof.Laws.WidthsKept.play (note : Option PlayNote) :
    Sys2Proof.Laws.WidthsKept.Statement (.play note) := by
  cases note <;>
    simp +contextual [Sys2Proof.Laws.WidthsKept.Statement, Instr.WellFormed, namedSession, noteTypeOf, PlayNote.WellFormed, fitsByte]

theorem Sys2Proof.Laws.WidthsKept.unknownNote (noteType : Byte) :
    Sys2Proof.Laws.WidthsKept.Statement (.unknownNote noteType) := by
  simp [Sys2Proof.Laws.WidthsKept.Statement, namedSession, noteTypeOf]

theorem Sys2Proof.Laws.WidthsKept.stationTransmit :
    Sys2Proof.Laws.WidthsKept.Statement .stationTransmit := by
  simp [Sys2Proof.Laws.WidthsKept.Statement, namedSession, noteTypeOf]

theorem Sys2Proof.Laws.WidthsKept.lineTransmit :
    Sys2Proof.Laws.WidthsKept.Statement .lineTransmit := by
  simp [Sys2Proof.Laws.WidthsKept.Statement, namedSession, noteTypeOf]

theorem Sys2Proof.Laws.WidthsKept.linkSample :
    Sys2Proof.Laws.WidthsKept.Statement .linkSample := by
  simp [Sys2Proof.Laws.WidthsKept.Statement, namedSession, noteTypeOf]

theorem Sys2Proof.Laws.WidthsKept.emptyPoint (session : SessionIx) :
    Sys2Proof.Laws.WidthsKept.Statement (.emptyPoint session) := by
  simp [Sys2Proof.Laws.WidthsKept.Statement, namedSession, noteTypeOf]

theorem Sys2Proof.Laws.WidthsKept.freshnessTimerExpiry (session : SessionIx) :
    Sys2Proof.Laws.WidthsKept.Statement (.freshnessTimerExpiry session) := by
  simp [Sys2Proof.Laws.WidthsKept.Statement, namedSession, noteTypeOf]

theorem Sys2Proof.Laws.WidthsKept.upHoldExpiry (session : SessionIx) :
    Sys2Proof.Laws.WidthsKept.Statement (.upHoldExpiry session) := by
  simp [Sys2Proof.Laws.WidthsKept.Statement, namedSession, noteTypeOf]

theorem Sys2Proof.Laws.WidthsKept.deadline (slot : SlotIx) :
    Sys2Proof.Laws.WidthsKept.Statement (.deadline slot) := by
  simp [Sys2Proof.Laws.WidthsKept.Statement, namedSession, noteTypeOf]

theorem Sys2Proof.Laws.WidthsKept.expiry (slot : SlotIx) :
    Sys2Proof.Laws.WidthsKept.Statement (.expiry slot) := by
  simp [Sys2Proof.Laws.WidthsKept.Statement, namedSession, noteTypeOf]

theorem Sys2Proof.Laws.WidthsKept.spacingHoldExpiry :
    Sys2Proof.Laws.WidthsKept.Statement .spacingHoldExpiry := by
  simp [Sys2Proof.Laws.WidthsKept.Statement, namedSession, noteTypeOf]

theorem Sys2Proof.Laws.WidthsKept.drainTimerExpiry (session : SessionIx) :
    Sys2Proof.Laws.WidthsKept.Statement (.drainTimerExpiry session) := by
  simp [Sys2Proof.Laws.WidthsKept.Statement, namedSession, noteTypeOf]

theorem Sys2Proof.Laws.WidthsKept.drawWindow (order : List SessionIx) :
    Sys2Proof.Laws.WidthsKept.Statement (.drawWindow order) := by
  simp [Sys2Proof.Laws.WidthsKept.Statement, namedSession, noteTypeOf]

theorem Sys2Proof.Laws.WidthsKept.retryExpiry (session : SessionIx) :
    Sys2Proof.Laws.WidthsKept.Statement (.retryExpiry session) := by
  simp [Sys2Proof.Laws.WidthsKept.Statement, namedSession, noteTypeOf]

theorem Sys2Proof.Laws.WidthsKept.flowIdle (key : FlowKey) :
    Sys2Proof.Laws.WidthsKept.Statement (.flowIdle key) := by
  simp [Sys2Proof.Laws.WidthsKept.Statement, namedSession, noteTypeOf]

theorem Sys2Proof.Laws.WidthsKept.busyMillisecond :
    Sys2Proof.Laws.WidthsKept.Statement .busyMillisecond := by
  simp [Sys2Proof.Laws.WidthsKept.Statement, namedSession, noteTypeOf]

end
end

