-- ==== Sys2Proof/Laws/Reports.lean ====
section
/-! SUPPORT. What answering a note and announcing a cause can change: nothing apart from the reports; that a reply once
queued stays queued; and what becomes of the reply of a note. -/

namespace Sys2Proof.Machine

theorem State.beginReport_apart (s : State) (f : ReportFrame) :
    (s.beginReport f).1.apartFromReports = s.apartFromReports := by
  unfold State.beginReport; split <;> rfl

theorem State.originate_apart (s : State) (n : OutNote) : (s.originate n).1.apartFromReports = s.apartFromReports := by
  unfold State.originate; repeat' split
  all_goals first | rfl | exact s.beginReport_apart _

theorem State.compareAttention_apart (s : State) : s.compareAttention.apartFromReports = s.apartFromReports := by
  unfold State.compareAttention
  split
  · rfl
  · split
    · rfl
    · extract_lets sent
      split
      · exact s.originate_apart _
      · exact s.originate_apart _

theorem settle_apart (s t : State) : (settle s t).apartFromReports = t.apartFromReports := by
  unfold settle; split
  · rfl
  · exact t.compareAttention_apart

theorem State.addReply_apart (s : State) (r : Reply) : (s.addReply r).apartFromReports = s.apartFromReports := by
  unfold State.addReply; split
  · rfl
  · split
    · rfl
    · rfl
    · extract_lets begun
      exact s.beginReport_apart _

theorem State.advanceBatch_apart (s : State) : s.advanceBatch.apartFromReports = s.apartFromReports := rfl

theorem State.endBatch_apart (s : State) : s.endBatch.apartFromReports = s.apartFromReports := rfl

theorem State.endIfDone_apart (s : State) : s.endIfDone.apartFromReports = s.apartFromReports := by
  unfold State.endIfDone; split
  · rfl
  · split <;> rfl

theorem State.answerUnreadable_apart (l : List RawNote) (s : State) :
    (State.answerUnreadable l s).apartFromReports = s.apartFromReports := by
  induction l generalizing s with
  | nil => rfl
  | cons r l ih =>
    unfold State.answerUnreadable
    split
    · rfl
    · split
      · rfl
      · extract_lets told
        rw [ih]
        exact (State.advanceBatch_apart _).trans (s.addReply_apart _)

theorem State.answer_apart (s : State) (ty : Byte) (a : Answer) :
    (s.answer ty a).apartFromReports = s.apartFromReports := by
  unfold State.answer; split
  · rfl
  · extract_lets told
    rw [State.endIfDone_apart, State.answerUnreadable_apart]
    exact (State.advanceBatch_apart _).trans (s.addReply_apart _)

/-- States that agree apart from reports address the replies of a batch alike. -/
theorem State.replyDest_of_apart {s t : State} (h : s.apartFromReports = t.apartFromReports) (b : Batch) :
    s.replyDest b = t.replyDest b := by
  have hc := congrArg (fun u : State => u.control.claim) h
  have : s.control.claim = t.control.claim := hc
  unfold State.replyDest; rw [this]

/-- A queue of report frames holds a reply frame of a batch number and destination whose notes meet a test. -/
def HoldsFrame (P : List OutNote → Prop) (q : List ReportFrame) (n : BitVec 16) (d : Addr) : Prop :=
  ∃ f ∈ q, f.isReply = true ∧ f.batch = n ∧ f.dest = d ∧ P f.notes

/-- A test of a frame's notes that a further note leaves true. -/
def Grows (P : List OutNote → Prop) : Prop := ∀ l m, P l → P (l ++ [m])

theorem grows_mem (r : OutNote) : Grows (r ∈ ·) := fun _ _ h => List.mem_append_left _ h

theorem grows_begins (ns : List OutNote) : Grows (ns <+: ·) := fun _ _ h => h.trans (List.prefix_append _ _)

theorem State.replied_iff (t : State) (b : Batch) (r : Reply) :
    t.Replied b r ↔ HoldsFrame (OutNote.reply r ∈ ·) t.path.reportQueue b.number (t.replyDest b) := Iff.rfl

variable {P : List OutNote → Prop} {q : List ReportFrame} {n : BitVec 16} {d : Addr}

theorem HoldsFrame.append (h : HoldsFrame P q n d) (l : List ReportFrame) : HoldsFrame P (q ++ l) n d := by
  obtain ⟨f, hf, k⟩ := h
  exact ⟨f, List.mem_append_left _ hf, k⟩

theorem HoldsFrame.appendReply (hP : Grows P) (h : HoldsFrame P q n d) (m : OutNote) :
    HoldsFrame P (appendReply m q) n d := by
  obtain ⟨f, hf, k1, k2, k3, k4⟩ := h
  induction q with
  | nil => cases hf
  | cons g q ih =>
    unfold Machine.appendReply
    rcases List.mem_cons.mp hf with e | e
    · subst e
      split
      · exact ⟨{ f with notes := f.notes ++ [m] }, List.mem_cons_self, k1, k2, k3, hP _ _ k4⟩
      · exact ⟨f, List.mem_cons_self, k1, k2, k3, k4⟩
    · split
      · exact ⟨f, List.mem_cons_of_mem _ e, k1, k2, k3, k4⟩
      · obtain ⟨f', m1, m2⟩ := ih e
        exact ⟨f', List.mem_cons_of_mem _ m1, m2⟩

theorem HoldsFrame.close (h : HoldsFrame P q n d) : HoldsFrame P (q.map fun f => { f with isOpen := false }) n d := by
  obtain ⟨f, hf, k⟩ := h
  exact ⟨{ f with isOpen := false }, List.mem_map_of_mem hf, k⟩

theorem State.beginReport_holds {s : State} (f : ReportFrame) (h : HoldsFrame P s.path.reportQueue n d) :
    HoldsFrame P (s.beginReport f).1.path.reportQueue n d := by
  unfold State.beginReport; split
  · exact h.append _
  · exact h

theorem State.originate_holds {s : State} (m : OutNote) (h : HoldsFrame P s.path.reportQueue n d) :
    HoldsFrame P (s.originate m).1.path.reportQueue n d := by
  unfold State.originate
  split
  · exact h
  · split
    · next f hl =>
      split
      · next ht =>
        obtain ⟨g, hg, k⟩ := h
        have hq : s.path.reportQueue = s.path.reportQueue.dropLast ++ [f] :=
          (List.dropLast_append_getLast? _ hl).symm
        rw [hq] at hg
        rcases List.mem_append.mp hg with e | e
        · exact ⟨g, List.mem_append_left _ e, k⟩
        · have : g = f := by simpa using e
          subst this
          simp [ReportFrame.takesOriginated, k.1] at ht
      · exact State.beginReport_holds _ h
    · exact State.beginReport_holds _ h

theorem State.compareAttention_holds {s : State} (h : HoldsFrame P s.path.reportQueue n d) :
    HoldsFrame P s.compareAttention.path.reportQueue n d := by
  unfold State.compareAttention
  split
  · exact h
  · split
    · exact h
    · extract_lets sent
      split
      · exact State.originate_holds _ h
      · exact State.originate_holds _ h

theorem settle_holds {s t : State} (h : HoldsFrame P t.path.reportQueue n d) :
    HoldsFrame P (settle s t).path.reportQueue n d := by
  unfold settle; split
  · exact h
  · exact State.compareAttention_holds h

theorem State.addReply_holds {s : State} (hP : Grows P) (m : Reply) (h : HoldsFrame P s.path.reportQueue n d) :
    HoldsFrame P (s.addReply m).path.reportQueue n d := by
  unfold State.addReply; split
  · exact h
  · split
    · exact h.appendReply hP _
    · exact h
    · extract_lets begun
      exact State.beginReport_holds _ h

theorem State.endIfDone_holds {s : State} (h : HoldsFrame P s.path.reportQueue n d) :
    HoldsFrame P s.endIfDone.path.reportQueue n d := by
  unfold State.endIfDone; split
  · exact h
  · split
    · exact h.close
    · exact h

theorem State.answerUnreadable_holds (hP : Grows P) (l : List RawNote) {s : State}
    (h : HoldsFrame P s.path.reportQueue n d) : HoldsFrame P (State.answerUnreadable l s).path.reportQueue n d := by
  induction l generalizing s with
  | nil => exact h
  | cons m l ih =>
    unfold State.answerUnreadable
    split
    · exact h
    · split
      · exact h
      · extract_lets told
        exact ih (State.addReply_holds hP _ h)

/-- A reply joins the first open frame of a queue (R160). -/
theorem appendReply_joins (m : OutNote) (before behind : List ReportFrame) (f : ReportFrame)
    (hb : ∀ h ∈ before, h.isOpen = false) (hf : f.isOpen = true) :
    appendReply m (before ++ f :: behind) = before ++ { f with notes := f.notes ++ [m] } :: behind := by
  induction before with
  | nil => simp [appendReply, hf]
  | cons g l ih =>
    have hg := hb g List.mem_cons_self
    simp [appendReply, hg, ih fun h hh => hb h (List.mem_cons_of_mem _ hh)]

/-- Once a batch's frame could not be begun, each of its replies is dropped and counted (R160). -/
theorem State.answerUnreadable_dropped (l : List RawNote) {s : State} {b : Batch} (hb : s.control.batch = some b)
    (hr : b.reply = .dropped) : (State.answerUnreadable l s).path.reportNotesDropped =
      s.path.reportNotesDropped + BitVec.ofNat 32 (l.takeWhile fun r => !r.readable).length := by
  induction l generalizing s b with
  | nil => simp [State.answerUnreadable]
  | cons m l ih =>
    unfold State.answerUnreadable
    cases hm : m.readable with
    | true => simp [List.takeWhile, hm]
    | false =>
      rw [if_neg (by decide)]
      split
      · next h => rw [hb] at h; cases h
      next b' h =>
      obtain rfl : b = b' := by rw [hb] at h; exact Option.some.inj h
      extract_lets told
      have hc : ∃ c, told.control.batch = some c ∧ c.reply = .dropped := by
        simp only [told, State.advanceBatch, State.addReply, hb, hr, State.dropReportNote, Option.map_some]
        exact ⟨_, rfl, rfl⟩
      obtain ⟨c, hc, hd⟩ := hc
      rw [ih (s := { told with choices := if m.noteType.isSome = true then told.choices else told.choices + 1 }) hc hd]
      simp only [told, State.advanceBatch, State.addReply, hb, hr, State.dropReportNote, List.takeWhile, hm,
        Bool.not_false, List.length_cons, BitVec.ofNat_add]
      ac_rfl

theorem State.endIfDone_dropped (s : State) : s.endIfDone.path.reportNotesDropped = s.path.reportNotesDropped := by
  unfold State.endIfDone; split
  · rfl
  · split <;> rfl

theorem State.endIfDone_lastTop (s : State) : s.endIfDone.control.lastTop = s.control.lastTop := by
  unfold State.endIfDone; split
  · rfl
  · split <;> rfl

theorem State.addReply_lastTop (s : State) (r : Reply) : (s.addReply r).control.lastTop = s.control.lastTop := by
  unfold State.addReply State.beginReport; repeat' split
  all_goals rfl

theorem State.answerUnreadable_lastTop (l : List RawNote) (s : State) :
    (State.answerUnreadable l s).control.lastTop = s.control.lastTop := by
  induction l generalizing s with
  | nil => rfl
  | cons m l ih =>
    unfold State.answerUnreadable
    split
    · rfl
    · split
      · rfl
      · extract_lets told
        rw [ih]
        exact s.addReply_lastTop _

theorem State.answer_lastTop (s : State) (ty : Byte) (a : Answer) : (s.answer ty a).control.lastTop = s.control.lastTop := by
  unfold State.answer; split
  · rfl
  · extract_lets told
    rw [State.endIfDone_lastTop, State.answerUnreadable_lastTop]
    exact s.addReply_lastTop _

/-- The top attention reads nothing that reports move. -/
theorem State.topAttention_of_apart {s t : State} (h : s.apartFromReports = t.apartFromReports) :
    s.topAttention = t.topAttention := by
  have hd : s.control.devicePending = t.control.devicePending := by
    have k := congrArg (fun u : State => u.control.devicePending) h
    exact k
  have hs : ∀ i, s.session i = t.session i := fun i => by
    have k := congrArg (fun u : State => u.session i) h
    exact k
  simp only [State.topAttention, hd, hs]

/-- With no top attention to send, a comparison moves no counter (R179). -/
theorem settle_dropped {s t : State} (h : ∀ x, t.topAttention = some x → t.control.lastTop = some x) :
    (settle s t).path.reportNotesDropped = t.path.reportNotesDropped := by
  unfold settle; split
  · rfl
  · unfold State.compareAttention
    split
    · rfl
    · next x hx => simp [h x hx]

/-- What becomes of the reply of a note: it begins the batch's frame, joins it, or is dropped and counted (R160). -/
theorem State.answer_answered {e : State} {b : Batch} (hb : e.control.batch = some b) (ty : Byte) (a : Answer) (s : State) :
    e.Answered (settle s (e.answer ty a)) b { position := b.position, noteType := ty, code := a.code, detail := a.detail
                                              payload := a.payload } := by
  have hap : (settle s (e.answer ty a)).apartFromReports = e.apartFromReports :=
    (settle_apart _ _).trans (e.answer_apart ty a)
  refine ⟨fun hr hq => ?_, fun hr before f behind hq hf hp hc => ?_, fun hd ht => ?_⟩
  · rw [State.replied_iff, State.replyDest_of_apart hap]
    apply settle_holds
    unfold State.answer
    rw [hb]
    apply State.endIfDone_holds
    apply State.answerUnreadable_holds (grows_mem _)
    simp only [State.advanceBatch, State.addReply, hb, hr, State.beginReport, reportQueueFrames, hq, if_true]
    exact ⟨_, List.mem_append_right _ List.mem_cons_self, rfl, rfl, rfl, List.mem_cons_self⟩
  · refine settle_holds (P := (f.notes ++ [_] <+: ·)) ?_
    unfold State.answer
    rw [hb]
    apply State.endIfDone_holds
    apply State.answerUnreadable_holds (grows_begins _)
    simp only [State.advanceBatch, State.addReply, hb, hr, hq]
    rw [appendReply_joins _ _ _ _ hc hf]
    exact ⟨_, List.mem_append_right _ List.mem_cons_self, hp, rfl, rfl, List.prefix_refl _⟩
  · have hlast : ∀ x, (e.answer ty a).topAttention = some x → (e.answer ty a).control.lastTop = some x := by
      rw [State.topAttention_of_apart (e.answer_apart ty a), State.answer_lastTop]; exact ht
    rw [settle_dropped hlast]
    unfold State.answer
    rw [hb]
    simp only
    rw [State.endIfDone_dropped]
    rcases hd with hr | ⟨hr, hq⟩
    · rw [State.answerUnreadable_dropped _ (b := { b with position := b.position + 1, rest := b.rest.tail })
        (by simp [State.advanceBatch, State.addReply, hb, hr, State.dropReportNote]) hr]
      simp only [State.advanceBatch, State.addReply, hb, hr, State.dropReportNote, Batch.unreadable, BitVec.ofNat_add]
      ac_rfl
    · have hn : ¬ e.path.reportQueue.length < 8 := by omega
      rw [State.answerUnreadable_dropped _
        (b := { b with position := b.position + 1, rest := b.rest.tail, reply := .dropped })
        (by simp [State.advanceBatch, State.addReply, hb, hr, State.beginReport, reportQueueFrames, hn,
              State.dropReportNote]) rfl]
      simp only [State.advanceBatch, State.addReply, hb, hr, State.beginReport, reportQueueFrames, hn, if_false,
        State.dropReportNote, Batch.unreadable, BitVec.ofNat_add]
      ac_rfl

/-- A note whose body keeps the batch in execution is answered as NoteDoes says. -/
theorem NoteDoes.of_takeNote {c : Instr} {s : State} {b : Batch} {ty : Byte} {cl : Bool} {e : State} {a : Answer}
    (hx : exec c s = .next (s.takeNote ty cl b (e, a))) (hc : s.claimCheck b cl = none)
    (he : e.control.batch = some b) (hp : a.payload = none) : NoteDoes c s b e ty a.code a.detail := by
  have ht : s.takeNote ty cl b (e, a) = settle s (e.answer ty a) := by unfold State.takeNote; rw [hc]
  rw [ht] at hx
  exact ⟨_, hx, (settle_apart _ _).trans (e.answer_apart ty a), hp ▸ State.answer_answered he ty a s⟩

/-- The claim check lets every note of the player pass (R171). -/
theorem State.Hears.check {s : State} {b : Batch} (h : s.Hears b) (cl : Bool) : s.claimCheck b cl = none := by
  have hc := h.claimed
  unfold State.claimCheck
  cases e : s.control.claim with
  | none => rw [e] at hc; cases hc
  | some c =>
    rw [e] at hc
    have : c.player = b.source := by simpa using hc
    simp [this]

theorem State.Hears.taking {s : State} {b : Batch} (h : s.Hears b) : s.takingBatch = some b := by
  simp [State.takingBatch, h.running, h.executing]

/-- An operation that works at the gate keeps the batch in execution. -/
theorem GateWork.batch {s t : State} (h : GateWork s t) : t.control.batch = s.control.batch := by
  rw [h]

end Sys2Proof.Machine
end

