-- ==== Sys2Proof/Tests/Slice0.lean ====
section
/-! SUPPORT. Tests: the smoke of WellFormed, the layouts of R169 read from octets written out by hand, the manual's worked
examples one step at a time, and, for each statement with hypotheses, a witness that meets them. -/

namespace Sys2Proof.Tests

open Sys2Proof Sys2Proof.Machine

/-! WellFormed refuses one ill-formed term for each of its checks. -/

theorem test_frame_too_short : (Instr.downlinkFrame { bytes := List.replicate 13 0, fcsOk := true }).WellFormed = false ∧
    (Instr.uplinkFrame { bytes := [], fcsOk := true }).WellFormed = false ∧
    (Instr.controlFrame { bytes := List.replicate 13 0, fcsOk := true }).WellFormed = false ∧
    (Instr.controlFrame { bytes := List.replicate 14 0, fcsOk := true }).WellFormed = true := by decide

theorem test_setup_field_too_wide :
    (Instr.setup (some { linkFloor := some 4294967296 })).WellFormed = false ∧
    (Instr.setup (some { margin := some 256 })).WellFormed = false ∧
    (Instr.setup (some { maxOutstanding := some 256 })).WellFormed = false ∧
    (Instr.setup (some { grantSpacing := some 256 })).WellFormed = false ∧
    (Instr.setup (some { high := some 256 })).WellFormed = false ∧
    (Instr.setup (some { mid := some 256 })).WellFormed = false ∧
    (Instr.setup (some { low := some 256 })).WellFormed = false ∧
    (Instr.setup (some { wA := some 4294967296 })).WellFormed = false ∧
    (Instr.setup (some { wB := some 4294967296 })).WellFormed = false ∧
    (Instr.setup (some { wS := some 4294967296 })).WellFormed = false ∧
    (Instr.setup (some { wM := some 4294967296 })).WellFormed = false ∧
    (Instr.setup (some { idleLimit := some 65536 })).WellFormed = false ∧
    (Instr.setup (some { idleLimit := some 65535, margin := some 255 })).WellFormed = true := by decide

theorem test_session_index_too_wide :
    (Instr.openSession (some 256)).WellFormed = false ∧ (Instr.sessionReset (some 256)).WellFormed = false ∧
    (Instr.closeSession (some 256)).WellFormed = false ∧ (Instr.sessionStatus (some 256)).WellFormed = false ∧
    (Instr.untether (some 256)).WellFormed = false ∧ (Instr.rearm (some 256)).WellFormed = false ∧
    (Instr.openSession (some 255)).WellFormed = true := by decide

theorem test_profile_field_too_wide :
    (Instr.profile (some { session := 256 })).WellFormed = false ∧
    (Instr.profile (some { session := 0, weight := some 256 })).WellFormed = false ∧
    (Instr.profile (some { session := 0, uplinkPriority := .value 256 })).WellFormed = false ∧
    (Instr.profile (some { session := 0, bufferTarget := some 4294967296 })).WellFormed = false ∧
    (Instr.profile (some { session := 0, lowGuard := some 4294967296 })).WellFormed = false ∧
    (Instr.profile (some { session := 0, panicLevel := some 4294967296 })).WellFormed = false ∧
    (Instr.profile (some { session := 0, upHold := some 4294967296 })).WellFormed = false ∧
    (Instr.profile (some { session := 0, freshnessLimit := .value 4294967296 })).WellFormed = false ∧
    (Instr.profile (some { session := 0, stallThreshold := some 256 })).WellFormed = false ∧
    (Instr.profile (some { session := 0, outstandingLimit := some 256 })).WellFormed = false ∧
    (Instr.profile (some { session := 0, retryLimit := some 256 })).WellFormed = false ∧
    (Instr.profile (some { session := 0, retryInterval := some 4294967296 })).WellFormed = false ∧
    (Instr.profile (some { session := 0, initialSpeed := some 256 })).WellFormed = false ∧
    (Instr.profile (some { session := 0, defaultCeiling := some 256 })).WellFormed = false ∧
    (Instr.profile (some { session := 0, uplinkPriority := .absent, freshnessLimit := .absent })).WellFormed = true := by
  decide

theorem test_ladder_field_too_wide :
    (Instr.ladderLoad (some { session := 256, first := 0, publish := false, records := [] })).WellFormed = false ∧
    (Instr.ladderLoad (some { session := 0, first := 256, publish := false, records := [] })).WellFormed = false ∧
    (Instr.ladderLoad (some { session := 0, first := 0, publish := false
                              records := [{ bitrate := 4294967296, skip := false }] })).WellFormed = false ∧
    (Instr.ladderLoad (some { session := 0, first := 0, publish := false
                              records := List.replicate 256 { bitrate := 1, skip := false } })).WellFormed = false ∧
    (Instr.ladderLoad (some { session := 0, first := 0, publish := false, records := []
                              rungCount := some 256 })).WellFormed = false ∧
    (Instr.ladderLoad (some { session := 0, first := 0, publish := false, records := []
                              fallback := some 256 })).WellFormed = false := by decide +kernel

theorem test_tether_flow_and_fetch_fields_too_wide :
    (Instr.tether (some { leader := 256, follower := 0 })).WellFormed = false ∧
    (Instr.tether (some { leader := 0, follower := 256 })).WellFormed = false ∧
    (Instr.tether (some { leader := 0, follower := 1, map := some [256] })).WellFormed = false ∧
    (Instr.tether (some { leader := 0, follower := 1, map := some (List.replicate 256 0) })).WellFormed = false ∧
    (Instr.flowBind (some { session := 256, key := ⟨.tcp, .v4 0, 0, 0⟩ })).WellFormed = false ∧
    (Instr.flowUnbind (some { session := 256, key := ⟨.tcp, .v4 0, 0, 0⟩ })).WellFormed = false ∧
    (Instr.askFetch (some { session := 256, segment := 0, duration := 0 })).WellFormed = false ∧
    (Instr.askFetch (some { session := 0, segment := 0, duration := 4294967296 })).WellFormed = false ∧
    (Instr.doneFetch (some { session := 256, tag := 0, outcome := .complete })).WellFormed = false ∧
    (Instr.abortFetch (some { session := 256, tag := 0 })).WellFormed = false := by decide +kernel

theorem test_play_field_too_wide :
    (Instr.play (some { session := 256, state := .playing })).WellFormed = false ∧
    (Instr.play (some { session := 0, state := .playing, level := some 4294967296 })).WellFormed = false ∧
    (Instr.play (some { session := 0, state := .playing, ceiling := some 256 })).WellFormed = false ∧
    (Instr.play (some { session := 0, state := .playing, target := some 4294967296 })).WellFormed = false ∧
    (Instr.play (some { session := 0, state := .playing, speed := some 256 })).WellFormed = false := by decide

theorem test_known_type_and_repeated_contender :
    (Instr.unknownNote 21).WellFormed = false ∧ (Instr.unknownNote 1).WellFormed = false ∧
    (Instr.unknownNote 0).WellFormed = true ∧ (Instr.unknownNote 22).WellFormed = true ∧
    (Instr.drawWindow [3, 3]).WellFormed = false ∧ (Instr.drawWindow [3, 4]).WellFormed = true := by decide

/-! Notes read from their octets (R169), each written out by hand from its layout. -/

/-- A note as its envelope delivers it. -/
def raw (noteType : Byte) (mask : Nat) (body : List Byte) : RawNote :=
  { noteType := some noteType, readable := true, mask := mask, body := body }

/-- R169: CLAIM, six octets of part address; OPEN, one octet. -/
theorem test_decode_claim_and_open :
    decodeNote (raw 1 0 [0x0A, 0x01, 0x02, 0x03, 0x04, 0x05]) = some (.claim (some 0x0A0102030405#48)) ∧
    decodeNote (raw 7 0 [15]) = some (.openSession (some 15)) ∧
    decodeNote (raw 7 0 [15, 0]) = some (.openSession none) ∧ decodeNote (raw 7 0 []) = some (.openSession none) ∧
    decodeNote (raw 22 0 [15]) = some (.unknownNote 22) := by decide

/-- R169: SETUP with the margin (bit 1) and the idle limit (bit 11). -/
theorem test_decode_setup :
    decodeNote (raw 2 0x0802 [12, 0x01, 0x2C]) = some (.setup (some { margin := some 12, idleLimit := some 300 })) := by
  decide

/-- R169: PROFILE with weight (bit 0), an absent uplink priority (bits 2 and 3), a freshness limit (bit 8), the draw kind
LIVE (bit 12) and the pin set (bit 15); bit 3 without bit 2 is MALFORMED. -/
theorem test_decode_profile :
    decodeNote (raw 13 0x00910D [4, 9, 0, 0, 0x0B, 0xB8, 2, 5]) =
      some (.profile (some { session := 4, weight := some 9, uplinkPriority := .absent, freshnessLimit := .value 3000
                             drawKind := some .live, pins := some ⟨true, false, true⟩ })) ∧
    decodeNote (raw 13 0x000008 [4]) = some (.profile none) ∧
    decodeNote (raw 13 0x008000 [4, 8]) = some (.profile none) := by decide

/-- R169: LADDER LOAD of two records with a rung count (bit 0) and a fallback (bit 1); TETHER with a map of two entries. -/
theorem test_decode_ladder_and_tether :
    decodeNote (raw 14 3 [2, 3, 1, 2, 0, 0, 0x0C, 0x80, 0, 0, 0, 0x0B, 0xB8, 1, 5, 1]) =
      some (.ladderLoad (some { session := 2, first := 3, publish := true
                                records := [{ bitrate := 3200, skip := false }, { bitrate := 3000, skip := true }]
                                rungCount := some 5, fallback := some 1 })) ∧
    decodeNote (raw 15 1 [0, 7, 2, 0, 1]) = some (.tether (some { leader := 0, follower := 7, map := some [0, 1] })) := by
  decide

/-- R169: FLOW BIND of a TCP flow to 192.0.2.10 port 443 from local port 51,200. -/
theorem test_decode_flow :
    decodeNote (raw 16 0 [4, 0, 0, 192, 0, 2, 10, 0x01, 0xBB, 0xC8, 0x00]) =
      some (.flowBind (some { session := 4, key := ⟨.tcp, .v4 0xC000020A, 443, 51200⟩ })) := by decide

/-- R169: ASK with its flush flag (bit 0), DONE, ABORT, and PLAY with a level (bit 0) and a speed (bit 3). -/
theorem test_decode_fetch_and_play :
    decodeNote (raw 18 1 [2, 0, 0, 3, 0x2C, 0, 0, 0x17, 0x70, 1]) =
      some (.askFetch (some { session := 2, segment := 812, duration := 6000, flush := true })) ∧
    decodeNote (raw 19 0 [0, 17, 0]) = some (.doneFetch (some { session := 0, tag := 17, outcome := .complete })) ∧
    decodeNote (raw 19 0 [0, 17, 2]) = some (.doneFetch none) ∧
    decodeNote (raw 20 0 [1, 255]) = some (.abortFetch (some { session := 1, tag := 255 })) ∧
    decodeNote (raw 21 9 [1, 1, 0, 0, 0x2E, 0xE0, 12]) =
      some (.play (some { session := 1, state := .playing, level := some 12000, speed := some 12 })) := by decide

/-- R169, R170: two envelopes, the second running past the end of the frame, and a third behind it. -/
theorem test_cut_notes :
    cutNotes 3 [7, 0, 1, 0, 0, 5, 8, 0, 2, 0, 0, 5] =
      [raw 7 0 [5], { noteType := some 8, readable := false, mask := 0, body := [] },
       { noteType := none, readable := false, mask := 0, body := [] }] := by decide

/-! Fixtures. -/

/-- A part address. -/
def part : Addr := 0x0A0000000001#48

/-- A player address. -/
def player : Addr := 0x020000000002#48

/-- A note that stands in a batch; its layout is not read here. -/
def someNote : RawNote := raw 3 0 []

/-- A batch of one note from the player. -/
def batch : Batch :=
  { source := player, number := 7, position := 0, rest := [someNote], statusNotes := 0, reply := .notBegun }

/-- The part at a device time, both carriers up, claimed by the player, with the batch in execution. -/
def hearing (now : Time) : State :=
  { State.reset with time := now, control.claim := some ⟨part, player⟩, control.batch := some batch
                     path.line.carrier := true, path.station.carrier := true }

/-- The state with one session record replaced. -/
def put (s : State) (i : SessionIx) (x : Session) : State := s.modSession i fun _ => x

/-- A PRIMED session with a profile. -/
def primed (n : ProfileNote) : Session :=
  { Session.starting .primed 0 with profile := some n.build, eff := some n.build.effective }

/-- A ladder without skipped rungs. -/
def ladder (bitrates : List Nat) (fallback : Nat) : Ladder :=
  { rungs := bitrates.map fun b => { bitrate := b, skip := false }, fallback := fallback }

/-- A STREAMING session with a profile, a ladder and a current rung. -/
def streaming (n : ProfileNote) (l : Ladder) (rung : Nat) : Session :=
  { primed n with admin := .streaming, published := some l, generation := 1, rung := some rung }

/-- A GRANTED slot. -/
def granted (i : SessionIx) (tag : Byte) (order : Nat) : Slot :=
  { session := i, tag := tag, segment := 1, duration := 4000, rung := 0, bitrate := 800, generation := 1, grantTime := 100
    deadline := some 9000, expiry := 20100, missed := false, bytes := 0, phase := .granted, overLow := false, order := order }

/-- The state that exec answers; the same state where it stops. -/
def after (c : Instr) (s : State) : State :=
  match exec c s with
  | .next t => t
  | .fault _ => s
  | .refused _ => s

/-- The codes and details of the replies in the report queue. -/
def replies (s : State) : List (ReplyCode × Option Nat) :=
  (s.path.reportQueue.flatMap ReportFrame.notes).filterMap fun n =>
    match n with
    | .reply r => some (r.code, r.detail)
    | .grant _ => none
    | .advisory _ => none
    | .attention _ => none

/-! The manual's worked examples, one step each. -/

/-- 1.9: OPEN S3, and an ASK that S3 refuses NOT_PROFILED. -/
theorem test_open_then_ask_refused :
    (after (.openSession (some 3)) (hearing 1000)).session 3 = Session.starting .unprofiled 1000 ∧
    replies (after (.askFetch (some { session := 3, segment := 0, duration := 4000 }))
      (put (hearing 1010) 3 (Session.starting .unprofiled 1000))) = [(.notProfiled, none)] := by decide +kernel

/-- 1.9: the first PROFILE of S3 is answered ACCEPTED_CLAMPED, with its target and its low guard at 120,000. -/
theorem test_profile_clamps :
    let t := after (.profile (some { session := 3, bufferTarget := some 150000, lowGuard := some 130000
                                     panicLevel := some 2000, weight := some 6, drawKind := some .start
                                     pins := some ⟨false, false, true⟩ }))
      (put (hearing 1020) 3 (Session.starting .unprofiled 1000))
    replies t = [(.acceptedClamped, none)] ∧ (t.session 3).admin = .primed ∧
    (t.session 3).eff = some { ceiling := 11, ceilingSource := .profile, target := 120000, targetSource := .profile
                               speed := 8, speedSource := .pinned, lowGuard := 120000, panicLevel := 2000 } := by
  decide +kernel

/-- 2.7: the publish at 2,010 fails check 3 and leaves S2 PRIMED; the one at 2,020 takes it to STREAMING. -/
theorem test_publish :
    let staged : Staging := Staging.load Staging.empty
      { session := 2, first := 0, publish := false, rungCount := some 5, fallback := some 1
        records := [⟨400, false⟩, ⟨900, false⟩, ⟨1800, false⟩] }
    let s := put (hearing 2010) 2 { primed { session := 2 } with staging := staged }
    let t := after (.ladderLoad (some { session := 2, first := 3, publish := true
                                        records := [⟨3200, false⟩, ⟨3000, false⟩] })) s
    let u := after (.ladderLoad (some { session := 2, first := 3, publish := true
                                        records := [⟨3200, false⟩, ⟨5000, false⟩] })) { s with time := 2020 }
    replies t = [(.ladderInvalid, some 3)] ∧ (t.session 2).admin = .primed ∧
    replies u = [(.accepted, none)] ∧ (u.session 2).published = some (ladder [400, 900, 1800, 3200, 5000] 1) ∧
    (u.session 2).generation = 1 ∧ (u.session 2).rung = some 0 ∧ (u.session 2).upHold = some 10020 := by
  decide +kernel

/-- 2.7: the republish at 60,000 carries cap 2 and rung 2 (1,800) to rung 1 (750). -/
theorem test_republish :
    let x := { streaming { session := 2 } (ladder [400, 900, 1800, 3200, 5000] 1) 2 with
      draw := { phase := .retryWait, cap := some 2, retryTimer := some 70000 } }
    let t := after (.ladderLoad (some { session := 2, first := 0, publish := true, rungCount := some 6, fallback := some 1
                                        records := [⟨350, false⟩, ⟨750, false⟩, ⟨1500, true⟩, ⟨2400, false⟩,
                                                    ⟨3600, false⟩, ⟨5400, false⟩] })) (put (hearing 60000) 2 x)
    (t.session 2).draw.cap = some 1 ∧ (t.session 2).rung = some 1 ∧ (t.session 2).stats.rungMovesDown = 1 ∧
    (t.session 2).upHold = some 68000 ∧ (t.session 2).shares = some { share := 750, floorNeed := 350, capNeed := 750 } := by
  decide +kernel

/-- 3.9: the link sample at 10,650 takes the estimate from 12,000 to 12,750. -/
theorem test_link_sample :
    (after .linkSample { hearing 10650 with meter.estimate := 12000, meter.busyAcc := 500
                                            meter.byteAcc := 937500 }).meter.estimate = 12750 := by decide +kernel

/-- 4.7: PLAY at 50,000 and the DONE at 54,000 of the same session at speed 12. -/
theorem test_play_and_done_anchor :
    let x := streaming { session := 1, freshnessLimit := .absent } (ladder [400, 800] 0) 0
    let t := after (.play (some { session := 1, state := .playing, level := some 12000 })) (put (hearing 50000) 1 x)
    let y := { x with
      eff := x.eff.map fun e => { e with speed := 12 }
      buffer := { x.buffer with playback := .playing, anchor := 10000, anchorTime := 52000 } }
    let u := after (.doneFetch (some { session := 1, tag := 3, outcome := .complete }))
      ((put (hearing 54000) 1 y).setSlot 0 (some (granted 1 3 0)))
    (t.session 1).buffer.anchor = 12000 ∧ (t.session 1).buffer.emptyPoint = some 62000 ∧
    (u.session 1).buffer.anchor = 11000 ∧ (u.session 1).buffer.emptyPoint = some 61334 := by decide +kernel

/-- 4.8: the freshness timer at 105,500, and the report at 107,000. -/
theorem test_blind_then_recovering :
    let x := streaming { session := 5 } (ladder [400, 800] 0) 0
    let s := put (hearing 105500) 5 { x with buffer.playback := .playing, buffer.freshTimer := some 105500 }
    let t := after (.freshnessTimerExpiry 5) s
    let u := after (.play (some { session := 5, state := .playing })) { t with time := 107000 }
    (t.session 5).buffer.freshness = .blind ∧ (t.session 5).causes = Cause.blind.bit ∧
    (u.session 5).buffer.freshness = .recovering ∧ (u.session 5).buffer.freshTimer = some 110000 := by decide +kernel

/-- 5.7: three contenders divide a link estimate of 12,000; a link floor of 1,500 starves them. -/
theorem test_shares :
    let three := put (put (put (hearing 0)
      0 (streaming { session := 0, weight := some 8 } (ladder [800, 1600, 3000, 4500, 6000, 8000] 1) 0))
      1 (streaming { session := 1, defaultCeiling := some 2 } (ladder [400, 1200, 2500, 4000] 1) 0))
      2 (streaming { session := 2, weight := some 1 } (ladder [300, 900, 2000, 3500, 6000] 1) 0)
    let t := State.recompute { three with meter.estimate := 12000 }
    let u := State.recompute { three with meter.estimate := 1500 }
    ([0, 1, 2].map fun i => ((t.session i).shares.map Shares.share)) = [some 6266, some 2500, some 983] ∧
    t.alloc.spare = 1 ∧
    ([0, 1, 2].map fun i => ((u.session i).shares.map Shares.share)) = [some 649, some 324, some 243] ∧
    u.alloc = { total := 1218, spare := 2, starved := true } := by decide +kernel

/-- 6.11: the verdicts at 200,000 (STEADY, one up), 203,000 (LOW, down) and 240,000 (BLIND, the fallback). -/
theorem test_verdicts :
    let x := { streaming { session := 0 } (ladder [800, 1600, 3000, 4500, 6000, 8000] 1) 3 with
      estimates := some { fast := 7200, slow := 6900 }, shares := some { share := 6266, floorNeed := 0, capNeed := 0 } }
    State.verdict (put (hearing 200000) 0 { x with buffer.anchor := 18000 }) 0 = 4 ∧
    State.verdict (put (hearing 203000) 0 { x with buffer.anchor := 8000, rung := some 4 }) 0 = 3 ∧
    State.verdict (put (hearing 240000) 0 { x with buffer.anchor := 40000, rung := some 0, buffer.freshness := .blind }) 0 =
      1 := by decide +kernel

/-- 7.11: the expiry at 324,060 lists tag 9, and the DONE after it is answered LATE_TAG. -/
theorem test_expiry_then_late_done :
    let s := (put (hearing 324060) 2 (streaming { session := 2 } (ladder [500, 1000, 2000] 1) 0)).setSlot 2
      (some { granted 2 9 0 with expiry := 324060 })
    let t := after (.expiry 2) s
    t.slot 2 = none ∧ (t.session 2).expiredTags = [9] ∧ (t.session 2).stats.expiries = 1 ∧
    (.lateTag, none) ∈ replies (after (.doneFetch (some { session := 2, tag := 9, outcome := .complete })) t) := by
  decide +kernel

/-- 8.10: a contended window of 8,400 against a share of 3,200 overdraws a LIVE session at once. -/
theorem test_live_overdraw :
    let live := { streaming { session := 9, drawKind := some .live } (ladder [1000, 2000, 3000] 0) 2 with
      shares := some { share := 3200, floorNeed := 1000, capNeed := 3000 }
      draw := { phase := .watching, settled := true, windowBytes := 105000, receivingMark := true } }
    let needy := streaming { session := 2 } (ladder [500, 1000] 0) 0
    let t := after (.drawWindow [9]) ((put (put (hearing 702000) 9 live) 2 needy).setSlot 7 (some (granted 2 1 0)))
    (t.session 9).draw.phase = .retryWait ∧ (t.session 9).draw.cap = some 1 ∧ (t.session 9).rung = some 1 ∧
    (t.session 9).draw.retryTimer = some 722000 ∧ (t.session 9).causes = Cause.overdraw.bit := by decide +kernel

/-- 9.9: the TETHER at 800,000 derives S7 from map entry 1 and gives S0 the combined needs 928 and 8,256. -/
theorem test_tether :
    let s := put (put (hearing 800000)
      0 (streaming { session := 0 } (ladder [800, 1600, 3000, 4500, 6000, 8000] 1) 3))
      7 (streaming { session := 7 } (ladder [128, 192, 256] 0) 2)
    let t := after (.tether (some { leader := 0, follower := 7, map := some [0, 0, 1, 1, 2, 2] })) s
    replies t = [(.accepted, none)] ∧ (t.session 7).rung = some 1 ∧ (t.session 7).role = .follower 0 ∧
    (t.session 0).shares.map (fun z => (z.floorNeed, z.capNeed)) = some (928, 8256) := by decide +kernel

/-- The octets of a tagged IPv4 frame of TCP from one address and port to another, with a total length and no payload past
the ports (R162). -/
def tcpFrame (source dest : List Byte) (sourcePort destPort : List Byte) : List Byte :=
  [0, 0, 0, 0, 0, 1, 0, 0, 0, 0, 0, 2, 0x81, 0, 0x0F, 0xFF, 0x08, 0, 0x45, 0, 0, 24, 0, 0, 0x40, 0, 64, 6, 0, 0] ++
    source ++ dest ++ sourcePort ++ destPort

/-- The flow of 10.9: TCP, remote 192.0.2.10 port 443, local port 51,200. -/
def flowKey : FlowKey := ⟨.tcp, .v4 0xC000020A, 443, 51200⟩

/-- An entry for that flow. -/
def flowEntry (i : SessionIx) : FlowEntry := { key := flowKey, session := i, bindTime := 20000, lastHit := none, hits := 0 }

/-- 10.9: the frame of S4's flow in each direction has the flow's key; uplink its priority becomes 5, its tag else kept;
downlink its counted length enters S4's slot. -/
theorem test_flow :
    let up := tcpFrame [10, 0, 0, 1] [192, 0, 2, 10] [0xC8, 0] [0x01, 0xBB]
    let down := tcpFrame [192, 0, 2, 10] [10, 0, 0, 1] [0x01, 0xBB] [0xC8, 0]
    let s := { (put (hearing 20300) 4 (streaming { session := 4, uplinkPriority := .value 5 } (ladder [800] 0) 0)).setSlot 3
      (some (granted 4 3 0)) with flows := [flowEntry 4] }
    uplinkKey up = some flowKey ∧ downlinkKey down = some flowKey ∧ countedLength down = 24 ∧
    (after (.uplinkFrame { bytes := up, fcsOk := true }) s).path.uplinkQueue = [up.set 14 0xAF] ∧
    ((after (.downlinkFrame { bytes := down, fcsOk := true }) s).slot 3).map (fun x => (x.bytes, x.phase)) =
      some (24, .receiving 20300 20300) := by decide +kernel

/-- 11.8: a carrier-down while OVERDRAW of S1 stands announces LINK_DOWN, and the DEVICE STATUS after it OVERDRAW again. -/
theorem test_attention :
    let s := State.raiseOn { hearing 21000 with control.lastTop := some (.overdraw, 1) } 1 .overdraw
    let t := after .lineCarrierDown s
    let u := after (.deviceStatus (some ())) t
    t.control.lastTop = some (.linkDown, 0) ∧ u.control.lastTop = some (.overdraw, 1) ∧ u.control.devicePending = 0 := by
  decide +kernel

/-! Witnesses: for each statement with hypotheses, a state and operands that meet them, clause by clause. Where a hypothesis
only names a value by an equation, that value is written in its place. -/

/-- A property of every slot, checked slot by slot. -/
theorem every_slot {s : State} {P : SlotIx → Slot → Prop} [∀ k x, Decidable (P k x)]
    (h : ∀ k, ((s.slot k).all fun x => decide (P k x)) = true) : ∀ k x, s.slot k = some x → P k x := by
  intro k x e
  have := h k
  rw [e] at this
  simpa using this

/-- A property of an optional value, checked on the value. -/
theorem every_value {α : Type} {o : Option α} {P : α → Prop} [DecidablePred P]
    (h : (o.all fun a => decide (P a)) = true) : ∀ a, o = some a → P a := by
  intro a e
  rw [e] at h
  simpa using h

/-- The checks of a publish, all at once for a staging ladder that validates to a known ladder. -/
theorem passes_all {g : Staging} {n : Nat} (hn : g.count = some n)
    (h2 : ∀ k, k < n → g.rung? k ≠ none)
    (h3 : ∀ k, k < n - 1 → ((g.rung? k).all fun a => (g.rung? (k + 1)).all fun b => decide (a.bitrate < b.bitrate)) = true)
    (h4 : ∃ k a, k < n ∧ g.rung? k = some a ∧ a.skip = false)
    (h5 : ∃ f a, g.fallback = some f ∧ f < n ∧ g.rung? f = some a ∧ a.skip = false) : ∀ j, g.Passes j := by
  intro j
  unfold Staging.Passes
  split
  · simp [hn]
  · intro m hm; rw [hn] at hm; cases hm; exact h2
  · intro m hm k a b hk ha hb
    rw [hn] at hm; cases hm
    have := h3 k (by omega)
    rw [ha, hb] at this
    simpa using this
  · intro m hm; rw [hn] at hm; cases hm; exact h4
  · intro m hm; rw [hn] at hm; cases hm; exact h5
  · trivial

/-- The part at time 1,000, claimed, with a batch of the player in execution. -/
def ready : State := hearing 1000

theorem ready_hears : ready.Hears batch := ⟨rfl, rfl, rfl⟩

/-- A report frame that is closed and full. -/
def closedFrame : ReportFrame :=
  { isReply := true, batch := 1, dest := player, isOpen := false, resetReply := false, notes := [] }

/-- A good frame of a given length up to its frame check sequence, with no type the classifier knows. -/
def plainFrame (n : Nat) : Frame := { bytes := List.replicate n 0, fcsOk := true }

/-- An untagged control frame to the control group address with a payload. -/
def controlBytes (payload : List Byte) : List Byte :=
  [0x0F, 0x4B, 0x57, 0x00, 0x21, 0x40, 2, 0, 0, 0, 0, 2, 0x9A, 0x5C] ++ payload

theorem witness_ResetsLeaveThePowerOnState :
    let reply : Transmission := { bytes := [], resetReply := true }
    let other : Transmission := { bytes := [], resetReply := false }
    ({ ready with control.resetPhase := .due }.control.resetPhase = .due ∧ ready.resetAsserted = false) ∧
    (let s := { ready with control.resetPhase := .awaitingReply, path.station.sending := some reply }
     s.control.resetPhase = .awaitingReply ∧ ∃ x, s.path.station.sending = some x ∧ x.resetReply = true) ∧
    ready.control.resetPhase = .quiet ∧
    (let s := { ready with control.resetPhase := .awaitingReply, path.station.sending := some other }
     s.control.resetPhase = .awaitingReply ∧ ∀ x, s.path.station.sending = some x → x.resetReply = false) :=
  ⟨⟨rfl, rfl⟩, ⟨rfl, _, rfl, rfl⟩, rfl, rfl, every_value (by decide)⟩

/-- The part after reset, at the last device time, with nothing due. -/
def quiet : State := { State.reset with time := 4294967295 }

theorem quiet_nothingDue : quiet.NothingDue where
  reset := by decide
  notes := by decide
  meter := by decide
  window := rfl
  spacing := fun _ h => nomatch h
  timers := by
    intro i d h
    have : ∀ i, (quiet.session i).buffer.emptyPoint = none ∧ (quiet.session i).buffer.freshTimer = none ∧
      (quiet.session i).upHold = none ∧ (quiet.session i).drainTimer = none ∧
      (quiet.session i).draw.retryTimer = none := by decide +kernel
    obtain ⟨a, b, c, e, f⟩ := this i
    rw [a, b, c, e, f] at h
    simp at h
  slots := by
    intro k x h
    have : ∀ k, quiet.slot k = none := by decide +kernel
    rw [this k] at h
    cases h
  flows := fun _ h => nomatch h
  station := .inl rfl
  line := .inl rfl
  idle := ⟨rfl, rfl⟩

theorem witness_CarriersTurn :
    (ready.resetAsserted = false ∧ ready.path.line.carrier = true ∧ ready.path.station.carrier = true ∧
      ready.control.resetPhase ≠ .awaitingReply) ∧
    (State.reset.resetAsserted = false ∧ State.reset.path.line.carrier = false ∧ State.reset.path.station.carrier = false) ∧
    (let s := { ready with path.line.carrier := false, path.reportQueue := List.replicate 7 closedFrame }
     s.resetAsserted = false ∧ s.path.line.carrier = false ∧ s.control.devicePending.has .linkUp = false ∧
     s.control.claim ≠ none ∧ s.path.reportQueue.length < 8) ∧
    (let s := { ready with path.reportQueue := List.replicate 7 closedFrame }
     s.resetAsserted = false ∧ s.path.line.carrier = true ∧ s.control.devicePending.has .linkDown = false ∧
     s.control.claim ≠ none ∧ s.path.reportQueue.length < 8) ∧
    { ready with control.resetPhase := .awaitingReply }.path.station.carrier = true ∧
    { ready with control.resetPhase := .awaitingReply }.control.resetPhase = .awaitingReply := by decide

theorem witness_BadFramesAreDiscarded :
    State.reset.path.line.carrier = false ∧ State.reset.path.station.carrier = false ∧ ready.resetAsserted = false ∧
    ready.path.line.carrier = true ∧ ready.path.station.carrier = true ∧
    { plainFrame 60 with fcsOk := false }.fcsOk = false ∧ 1522 < (plainFrame 1519).bytes.length + 4 := by decide +kernel

/-- A downlink frame of the flow of 10.9. -/
def flowFrame : Frame := { bytes := tcpFrame [192, 0, 2, 10] [10, 0, 0, 1] [0x01, 0xBB] [0xC8, 0], fcsOk := true }

/-- Two slots of S4 granted at one time, of which slot 5 was granted first, and the flow of 10.9 bound to S4. -/
def flowState : State :=
  { ((put ready 4 (streaming { session := 4, uplinkPriority := .value 5 } (ladder [800] 0) 0)).setSlot 3
      (some (granted 4 3 1))).setSlot 5 (some (granted 4 2 0)) with flows := [flowEntry 4] }

theorem witness_DownlinkFrameIsAttributed :
    (ready.resetAsserted = false ∧ ready.path.line.carrier = true ∧ (plainFrame 1518).fcsOk = true ∧
      (plainFrame 1518).bytes.length + 4 ≤ 1522) ∧
    (∀ k, downlinkKey (plainFrame 1518).bytes = some k → ∀ e ∈ ready.flows, e.key ≠ k) ∧
    (flowState.resetAsserted = false ∧ flowState.path.line.carrier = true ∧ flowFrame.fcsOk = true ∧
      flowFrame.bytes.length + 4 ≤ 1522 ∧ (flowState.flows.map FlowEntry.key).Nodup ∧ flowEntry 4 ∈ flowState.flows ∧
      downlinkKey flowFrame.bytes = some (flowEntry 4).key) ∧
    (flowState.slot 5 = some (granted 4 2 0) ∧ (granted 4 2 0).session = (flowEntry 4).session) ∧
    (∀ m y, flowState.slot m = some y → m ≠ 5 → y.session = (flowEntry 4).session →
      elapsed flowState.time y.grantTime < elapsed flowState.time (granted 4 2 0).grantTime ∨
      (elapsed flowState.time y.grantTime = elapsed flowState.time (granted 4 2 0).grantTime ∧
        (granted 4 2 0).order < y.order)) ∧
    (∀ k x, { ready with flows := [flowEntry 4] }.slot k = some x → x.session ≠ (flowEntry 4).session) :=
  ⟨⟨rfl, rfl, rfl, by decide +kernel⟩, fun _ _ _ h => absurd h List.not_mem_nil, by decide +kernel, by decide +kernel,
    every_slot (by decide +kernel), every_slot (by decide +kernel)⟩

/-- R130: of two frames at 20,300, one before and one behind the window that ends there, the first enters the next window. -/
theorem test_frame_at_a_window_end :
    let early := after (.downlinkFrame flowFrame) { flowState with time := 20300, windowDue := true }
    let late := after (.downlinkFrame flowFrame) (after (.drawWindow []) early)
    (early.session 4).draw.windowBytes = 0 ∧ (early.session 4).draw.nextBytes = 24 ∧
    (late.session 4).draw.windowBytes = 48 ∧ (late.session 4).draw.nextBytes = 0 ∧
    (late.session 4).draw.receivingMark = true := by decide +kernel

/-- An uplink frame of the flow of 10.9. -/
def upFrame : Frame := { bytes := tcpFrame [10, 0, 0, 1] [192, 0, 2, 10] [0xC8, 0] [0x01, 0xBB], fcsOk := true }

theorem witness_UplinkFrameIsForwarded :
    (flowState.resetAsserted = false ∧ flowState.path.station.carrier = true ∧ upFrame.fcsOk = true ∧
      upFrame.bytes.length + 4 ≤ 1522 ∧ flowState.takesControl upFrame.bytes = false ∧
      flowEntry 4 ∈ flowState.flows ∧ (flowState.flows.map FlowEntry.key).Nodup ∧
      uplinkKey upFrame.bytes = some (flowEntry 4).key ∧ isTagged upFrame.bytes = true ∧
      (flowState.session 4).profile.bind Profile.uplinkPriority = some 5) ∧
    (∀ k, uplinkKey upFrame.bytes = some k → ∀ e ∈ ready.flows, e.key ≠ k) ∧
    { ready with path.uplinkQueue := List.replicate 31 [] }.path.uplinkQueue.length < 32 ∧
    32 ≤ { ready with path.uplinkQueue := List.replicate 32 [] }.path.uplinkQueue.length :=
  ⟨by decide +kernel, fun _ _ _ h => absurd h List.not_mem_nil, by decide, by decide⟩

theorem witness_ControlFrameIsConsumed :
    let f : Frame := { bytes := controlBytes [1], fcsOk := true }
    let own : Frame := { bytes := [0x0A, 0, 0, 0, 0, 1, 2, 0, 0, 0, 0, 2, 0x9A, 0x5C], fcsOk := true }
    (f.fcsOk = true ∧ f.bytes.length + 4 ≤ 1522 ∧ frameType f.bytes = 0x9A5C ∧
      destAddr f.bytes = 0x0F4B57002140#48) ∧
    (frameType own.bytes = 0x9A5C ∧ ∃ k, ready.control.claim = some k ∧ destAddr own.bytes = k.part) ∧
    (ready.resetAsserted = false ∧ ready.path.station.carrier = true ∧ ready.control.resetPhase = .quiet) ∧
    { ready with control.inputQueue := List.replicate 3 [] }.control.inputQueue.length < 4 ∧
    4 ≤ { ready with control.inputQueue := List.replicate 4 [] }.control.inputQueue.length ∧
    { ready with control.resetPhase := .due }.control.resetPhase ≠ .quiet :=
  ⟨by decide +kernel, ⟨by decide +kernel, _, rfl, by decide +kernel⟩, by decide, by decide, by decide, by decide⟩

theorem witness_TransmissionsBegin :
    (ready.resetAsserted = false ∧ ready.path.station.carrier = true ∧ ready.path.station.sending = none ∧
      ready.path.line.carrier = true ∧ ready.path.line.sending = none ∧ ready.path.uplinkQueue = [] ∧
      ready.path.reportQueue = [] ∧ ready.path.downlinkQueue = []) ∧
    { ready with path.reportQueue := [closedFrame] }.path.reportQueue = closedFrame :: [] ∧ closedFrame.isOpen = false ∧
    { closedFrame with isOpen := true }.isOpen = true ∧
    { ready with path.downlinkQueue := [[1]] }.path.downlinkQueue = [1] :: [] ∧
    { ready with path.uplinkQueue := [[1]] }.path.uplinkQueue = [1] :: [] ∧ State.reset.path.station.carrier = false ∧
    State.reset.path.line.carrier = false := by decide

theorem witness_BatchBegins :
    let idle := { ready with control.batch := none }
    let framed := fun payload => { idle with control.inputQueue := [controlBytes payload] }
    let payload := fun version count : Byte => [version, 0, 7, count, 0, 7, 0, 1, 0, 0, 5]
    (ready.resetAsserted = false ∧ ready.control.batch ≠ none ∧ idle.control.inputQueue = []) ∧
    ((framed [1, 0, 7, 1]).control.inputQueue = controlBytes [1, 0, 7, 1] :: [] ∧ (framed []).control.batch = none ∧
      (framePayload (controlBytes [1, 0, 7, 1])).length < 5) ∧
    (5 ≤ (framePayload (controlBytes [1, 0, 7, 1, 0])).length ∧
      fieldAt (framePayload (controlBytes (payload 2 1))) 0 1 ≠ 1 ∧
      fieldAt (framePayload (controlBytes (payload 1 0))) 3 1 = 0 ∧
      16 < fieldAt (framePayload (controlBytes (payload 1 17))) 3 1) ∧
    (∀ n, n = 1 ∨ n = 16 → fieldAt (framePayload (controlBytes (payload 1 (BitVec.ofNat 8 n)))) 0 1 = 1 ∧
      fieldAt (framePayload (controlBytes (payload 1 (BitVec.ofNat 8 n)))) 3 1 = n ∧
      ∀ r ∈ (cutNotes n ((framePayload (controlBytes (payload 1 (BitVec.ofNat 8 n)))).drop 5)).head?, r.readable = true) :=
  ⟨by decide +kernel, by decide +kernel, by decide +kernel, fun n h => by rcases h with rfl | rfl <;> decide +kernel⟩

theorem witness_ClaimSetsTheAddresses :
    (ready.resetAsserted = false ∧ ready.control.batch = some batch ∧
      ready.control.claim.map Claim.player = some batch.source) ∧
    { ready with control.claim := none }.control.claim = none ∧ part.getLsbD 40 = false ∧
    (0x0F4B57002140#48).getLsbD 40 = true ∧
    { ready with path.reportQueue := List.replicate 6 closedFrame }.path.reportQueue.length < 7 := by decide

theorem witness_RefusedNotesChangeNothing :
    (ready.resetAsserted = false ∧ ready.control.batch = some batch ∧ noteTypeOf (.openSession (some 0)) = some 7 ∧
      (7 : Byte) ≠ 1 ∧ { ready with control.claim := none }.control.claim = none) ∧
    (let k : Claim := ⟨part, 5⟩
     { ready with control.claim := some k }.control.claim = some k ∧ batch.source ≠ k.player) ∧
    (ready.control.claim.map Claim.player = some batch.source ∧
      2 ≤ { batch with statusNotes := 2 }.statusNotes ∧ noteTypeOf (.sessionStatus (some 0)) = some 10 ∧
      structureFails (.openSession none) = true) := by decide

/-- A reply frame that is open and holds the replies so far. -/
def openFrame : ReportFrame := { closedFrame with isOpen := true, batch := 7 }

theorem witness_EachNoteIsTakenInTurn :
    let last : RawNote := { someNote with readable := false }
    let later := { batch with position := 1, reply := .begun, rest := [someNote, last] }
    let lost := { batch with position := 1, reply := .dropped }
    let s := { ready with control.batch := some later, path.reportQueue := [closedFrame, openFrame, closedFrame] }
    (ready.resetAsserted = false ∧ ready.control.batch = some batch ∧ noteTypeOf (.openSession (some 0)) ≠ none ∧
      Instr.openSession (some 0) ≠ .deviceReset (some ()) ∧ batch.reply = .notBegun ∧
      ∀ f ∈ ready.path.reportQueue, f.isOpen = false) ∧
    ({ ready with control.claim := none }.control.claim.map Claim.player ≠ some batch.source) ∧
    ({ batch with rest := [someNote, someNote] }.rest.tail = someNote :: [] ∧ someNote.readable = true) ∧
    (later.unreadable[0]? = some last ∧ (∀ r ∈ later.rest.tail, r.readable = false) ∧ s.control.batch = some later ∧
      later.reply = .begun ∧ s.path.reportQueue = [closedFrame] ++ openFrame :: [closedFrame] ∧ openFrame.isOpen = true ∧
      openFrame.isReply = true ∧ (∀ h ∈ [closedFrame], h.isOpen = false)) ∧
    { ready with control.batch := some lost }.control.batch = some lost ∧ lost.reply = .dropped ∧
    ∀ r ∈ batch.rest.tail, r.readable = false := by decide

theorem witness_SetupAndLinkRestartSetTheDevice :
    let n : SetupNote := { margin := some 17, maxOutstanding := some 1, high := some 20, idleLimit := some 9 }
    let u : Setup := { Setup.reset with margin := 16, maxOutstanding := 1, high := 20, mid := 20, low := 20, idleLimit := 10 }
    ready.Hears batch ∧
    u.linkFloor = n.linkFloor.elim ready.setup.linkFloor (clampTo 256 1000000) ∧
    u.margin = n.margin.elim ready.setup.margin (clampTo 8 16) ∧
    u.maxOutstanding = n.maxOutstanding.elim ready.setup.maxOutstanding (clampTo 1 8) ∧
    u.grantSpacing = n.grantSpacing.elim ready.setup.grantSpacing (clampTo 0 255) ∧
    u.high = n.high.elim ready.setup.high (clampTo 17 64) ∧
    u.mid = clampTo 17 u.high (n.mid.elim ready.setup.mid (clampTo 17 64)) ∧
    u.low = clampTo 16 u.mid (n.low.elim ready.setup.low (clampTo 16 64)) ∧
    u.wA = n.wA.elim ready.setup.wA (clampTo 0 10000) ∧ u.wB = n.wB.elim ready.setup.wB (clampTo 0 20000) ∧
    u.wS = n.wS.elim ready.setup.wS (clampTo 100 10000) ∧ u.wM = n.wM.elim ready.setup.wM (clampTo 100 10000) ∧
    u.idleLimit = n.idleLimit.elim ready.setup.idleLimit (clampTo 10 600) :=
  ⟨ready_hears, by decide⟩

theorem witness_StatusNotesReportAndClear :
    ready.Hears batch ∧ batch.statusNotes < 2 ∧
    ((put ready 15 (Session.starting .unprofiled 0)).session 15).admin ≠ .vacant :=
  ⟨ready_hears, by decide⟩

/-- The hypotheses of that statement only name values. R173: the first octets of a DEVICE STATUS after reset are unclaimed without a
player, both carriers down, a link estimate of 3,000, A and spare of 2,437, not starved. -/
theorem witness_StatusPayloadsHoldTheState :
    State.reset.devicePayload.take 17 = [0, 0, 0, 0, 0, 0, 0x0B, 0xB8, 0, 0, 9, 0x85, 0, 0, 9, 0x85, 0] := by
  decide +kernel

theorem witness_DeviceResetPends :
    (ready.Hears batch ∧ batch.reply = .notBegun ∧
      { ready with path.reportQueue := List.replicate 7 closedFrame }.path.reportQueue.length < 8 ∧
      8 ≤ { ready with path.reportQueue := List.replicate 8 closedFrame }.path.reportQueue.length) ∧
    (let b := { batch with reply := .begun }
     let s := { ready with control.batch := some b, path.reportQueue := [closedFrame] ++ openFrame :: [closedFrame] }
     s.Hears b ∧ b.reply = .begun ∧ s.path.reportQueue = [closedFrame] ++ openFrame :: [closedFrame] ∧
     openFrame.isOpen = true ∧ (∀ h ∈ [closedFrame], h.isOpen = false)) ∧
    (let b := { batch with reply := .dropped }
     { ready with control.batch := some b }.Hears b ∧ b.reply = .dropped ∧
     ∀ h ∈ { ready with control.batch := some b }.path.reportQueue, h.isOpen = false) :=
  ⟨⟨ready_hears, by decide⟩, ⟨⟨rfl, rfl, rfl⟩, by decide⟩, ⟨rfl, rfl, rfl⟩, by decide⟩

theorem witness_TopAttentionIsCompared :
    let raised := ready.raiseOn 3 .expired
    ready.topAttention = none ∧ raised.topAttention = some (.expired, 3) ∧
    { raised with control.lastTop := some (.expired, 3) }.control.lastTop = some (.expired, 3) ∧
    raised.control.lastTop ≠ some (.expired, 3) ∧ { raised with control.claim := none }.control.claim = none ∧
    raised.control.claim ≠ none ∧ { raised with path.reportQueue := List.replicate 7 closedFrame }.path.reportQueue.length < 8 ∧
    (let full := { raised with path.reportQueue := List.replicate 8 closedFrame }
     8 ≤ full.path.reportQueue.length ∧
     (full.path.reportQueue.getLast?.all fun f => decide (f.takesOriginated = false)) = true) := by decide +kernel

/-- A carrier-down while the last sent is none, and a DEVICE STATUS that clears the only pending cause. -/
theorem witness_ChangedCausesAreAnnounced :
    let raised := { ready.raiseDevice .linkDown with control.lastTop := some (.linkDown, 0) }
    let t := after .lineCarrierDown ready
    let u := after (.deviceStatus (some ())) raised
    (ready.resetAsserted = false ∧ exec .lineCarrierDown ready = .next t ∧
      t.control.devicePending ≠ ready.control.devicePending ∧ t.topAttention = some (.linkDown, 0) ∧
      t.control.claim ≠ none ∧ t.path.reportQueue.length < 8 ∧ ready.control.lastTop ≠ some (.linkDown, 0)) ∧
    raised.resetAsserted = false ∧ exec (.deviceStatus (some ())) raised = .next u ∧
    u.control.devicePending ≠ raised.control.devicePending ∧ u.topAttention = none :=
  ⟨⟨rfl, rfl, by decide +kernel⟩, rfl, rfl, by decide +kernel⟩

/-- Three sessions in service: S0 UNPROFILED, S1 PRIMED, S2 STREAMING on a ladder of three rungs. -/
def served : State :=
  put (put (put ready 0 (Session.starting .unprofiled 0)) 1 (primed { session := 1 }))
    2 (streaming { session := 2 } (ladder [800, 1600, 3000] 1) 1)

theorem served_hears : served.Hears batch := ⟨rfl, rfl, rfl⟩

theorem witness_AdmissionByAdminState :
    let ask : Instr := .askFetch (some { session := 1, segment := 0, duration := 4000 })
    served.Hears batch ∧ batch.statusNotes < 2 ∧ noteTypeOf (.openSession (some 16)) = some 7 ∧
    namedSession (.openSession (some 16)) = some 16 ∧ 15 < 16 ∧ noteTypeOf ask = some 18 ∧ namedSession ask = some 1 ∧
    refusalOf ask (served.session 1).admin = some .noLadder ∧
    refusalOf (.openSession (some 0)) (served.session 0).admin = some .sessionBusy ∧
    refusalOf (.untether (some 0)) (served.session 0).admin = some .notProfiled ∧
    refusalOf (.sessionStatus (some 15)) (served.session 15).admin = some .sessionVacant :=
  ⟨served_hears, by decide +kernel⟩

theorem witness_StreamingEndsOnlyByReset :
    (∃ t, exec (.emptyPoint 2) served = .next t) ∧ (served.session 2).admin = .streaming :=
  ⟨⟨_, rfl⟩, by decide +kernel⟩

theorem witness_OpenSetsTheRecord : served.Hears batch ∧ (served.session 15).admin = .vacant :=
  ⟨served_hears, by decide +kernel⟩

theorem witness_ProfileFieldsAreClampedOrDefault :
    let low : ProfileNote := { session := 0, weight := some 0, bufferTarget := some 1999, lowGuard := some 2001
                               panicLevel := some 2001, uplinkPriority := .value 8, freshnessLimit := .value 499 }
    (low.weight = some 0 ∧ low.uplinkPriority = .value 8 ∧ low.bufferTarget = some 1999 ∧ low.lowGuard = some 2001 ∧
      low.build.bufferTarget = 2000 ∧ low.build.lowGuard = 2000 ∧ low.build.panicLevel = 2000) ∧
    ({ session := 0 } : ProfileNote).weight = none ∧ ({ session := 0 } : ProfileNote).freshnessLimit = .omitted := by decide

theorem witness_ProfilePrimesTheSession :
    served.Hears batch ∧ ({ session := 0 } : ProfileNote).session = (0 : SessionIx).val ∧
    (served.session 0).admin = .unprofiled ∧ (served.session 0).role = .independent ∧ (served.session 0).eff = none ∧
    (served.session 0).buffer.playback = .stopped :=
  ⟨served_hears, by decide +kernel⟩

/-- S2 as a session of draw kind START with a retry limit of 3, in a draw state. -/
def drawn (d : DrawState) : State :=
  put served 2 { streaming { session := 2 } (ladder [800, 1600, 3000] 1) 1 with draw := d }

/-- S2 as the follower of S1. -/
def followed : State :=
  put (put served 1 { primed { session := 1 } with
      role := .leader [{ index := 2, map := defaultMap 3, isDefault := true }] })
    2 { streaming { session := 2 } (ladder [800, 1600, 3000] 1) 1 with role := .follower 1 }

theorem witness_ResetAndCloseClearTheSession :
    served.Hears batch ∧ (served.session 2).admin ≠ .vacant ∧ (served.session 2).isContender = true ∧
    (∃ k x, (served.setSlot 7 (some (granted 2 0 0))).slot k = some x ∧ x.session = 2) ∧
    (served.session 0).admin ≠ .vacant ∧ (served.session 0).isContender = false ∧
    (served.session 2).role = .independent ∧ (followed.session 2).role = .follower 1 ∧
    ∃ fs, (followed.session 1).role = .leader fs :=
  ⟨served_hears, by decide +kernel, by decide +kernel, ⟨7, granted 2 0 0, by decide +kernel⟩, by decide +kernel,
    by decide +kernel, by decide +kernel, by decide +kernel, _, rfl⟩

theorem witness_ReprofileRenewsTheSession :
    let start : Profile := ({ session := 2 } : ProfileNote).build
    let s := drawn { phase := .retryWait, retriesUsed := 2 }
    (s.Hears batch ∧ (s.session 2).admin = .streaming ∧ (s.session 2).profile = some start ∧
      (s.session 2).eff = some start.effective ∧ ∀ l, (s.session 2).role ≠ .follower l) ∧
    ((followed.session 1).admin = .primed ∧ (followed.session 1).followers ≠ [] ∧
      ∀ l, (followed.session 1).role ≠ .follower l) ∧
    (followed.Hears batch ∧ (followed.session 2).admin = .streaming ∧ (followed.session 2).profile = some start ∧
      (followed.session 2).eff = some start.effective ∧ (followed.session 2).role = .follower 1) :=
  ⟨⟨⟨rfl, rfl, rfl⟩, by decide +kernel⟩, by decide +kernel, ⟨rfl, rfl, rfl⟩, by decide +kernel⟩

theorem witness_LadderLoadStages :
    let n : LadderNote := { session := 0, first := 11, publish := false, records := [⟨99, true⟩], rungCount := some 12 }
    let g := (served.session 0).staging
    let h := g.load n
    (served.Hears batch ∧ n.session = (0 : SessionIx).val ∧ (served.session 0).admin ≠ .vacant ∧ n.publish = false ∧
      1 ≤ n.records.length ∧ n.first + n.records.length ≤ 12) ∧
    (∀ k, k < 12 → h.rung? k =
      (if n.first ≤ k ∧ k < n.first + n.records.length then
         (n.records[k - n.first]?).map fun r => { bitrate := clampTo 100 65000 r.bitrate, skip := r.skip }
       else g.rung? k)) ∧
    h.count = n.rungCount.elim g.count (fun c => some (clampTo 1 12 c)) ∧
    h.fallback = n.fallback.elim g.fallback (fun f => some (clampTo 0 11 f)) ∧
    (true = false ↔ (∀ r ∈ n.records, 100 ≤ r.bitrate ∧ r.bitrate ≤ 65000) ∧
        (∀ c, n.rungCount = some c → 1 ≤ c ∧ c ≤ 12) ∧ (∀ f, n.fallback = some f → f ≤ 11)) := by
  refine ⟨⟨served_hears, by decide +kernel⟩, by decide +kernel, by decide +kernel, by decide +kernel, ?_⟩
  simp

/-- A staging ladder with a count, records from position 0, and a fallback. -/
def staged (count : Option Nat) (records : List Rung) (fallback : Option Nat) : Staging :=
  { (Staging.empty.write 0 records) with count := count, fallback := fallback }

/-- A publishing note that writes position 11, which no ladder of these witnesses reaches. -/
def publishNote (session : Nat) : LadderNote :=
  { session := session, first := 11, publish := true, records := [⟨60000, false⟩] }

/-- S1 PRIMED with a staging ladder. -/
def stagedState (g : Staging) : State := put served 1 { primed { session := 1 } with staging := g }

theorem witness_PublishFailsAtTheFirstCheck :
    let fails := fun (g : Staging) (k : Nat) =>
      (stagedState g).Hears batch ∧ (publishNote 1).session = (1 : SessionIx).val ∧
      ((stagedState g).session 1).admin = .primed ∧ (publishNote 1).publish = true ∧ (publishNote 1).malformed = false ∧
      (∀ j, j < k → (((stagedState g).session 1).staging.load (publishNote 1)).Passes j) ∧
      ¬ (((stagedState g).session 1).staging.load (publishNote 1)).Passes k
    fails (staged none [] none) 1 ∧ fails (staged (some 1) [] none) 2 ∧
    fails (staged (some 2) [⟨800, true⟩, ⟨800, true⟩] none) 3 ∧ fails (staged (some 1) [⟨800, true⟩] none) 4 ∧
    fails (staged (some 1) [⟨800, false⟩] (some 1)) 5 := by
  have count : ∀ c l f, ((((stagedState (staged c l f)).session 1).staging.load (publishNote 1)).count) = c := by
    intro c l f; rfl
  have rungs : ∀ c l f k, ((((stagedState (staged c l f)).session 1).staging.load (publishNote 1)).rung? k) =
      ((staged none l none).load (publishNote 1)).rung? k := by
    intro c l f k; rfl
  have fallback : ∀ c l f, ((((stagedState (staged c l f)).session 1).staging.load (publishNote 1)).fallback) = f := by
    intro c l f; rfl
  refine ⟨⟨⟨rfl, rfl, rfl⟩, rfl, rfl, rfl, rfl, ?_, ?_⟩,
    ⟨⟨rfl, rfl, rfl⟩, rfl, rfl, rfl, rfl, ?_, ?_⟩,
    ⟨⟨rfl, rfl, rfl⟩, rfl, rfl, rfl, rfl, ?_, ?_⟩,
    ⟨⟨rfl, rfl, rfl⟩, rfl, rfl, rfl, rfl, ?_, ?_⟩,
    ⟨⟨rfl, rfl, rfl⟩, rfl, rfl, rfl, rfl, ?_, ?_⟩⟩
  · intro j hj
    interval_cases j
    trivial
  · simp only [Staging.Passes, count]
    simp
  · intro j hj
    interval_cases j
    · trivial
    · simp only [Staging.Passes, count]
      simp
  · simp only [Staging.Passes, count, rungs]
    intro h
    exact h 1 rfl 0 (by omega) (by decide +kernel)
  · intro j hj
    interval_cases j
    · trivial
    · simp only [Staging.Passes, count]
      simp
    · simp only [Staging.Passes, count, rungs]
      intro n hn
      cases hn
      decide +kernel
  · simp only [Staging.Passes, count, rungs]
    intro h
    exact absurd (h 2 rfl 0 ⟨800, true⟩ ⟨800, true⟩ (by omega) (by decide +kernel) (by decide +kernel)) (by decide)
  · intro j hj
    interval_cases j
    · trivial
    · simp only [Staging.Passes, count]
      simp
    · simp only [Staging.Passes, count, rungs]
      intro n hn
      cases hn
      decide +kernel
    · simp only [Staging.Passes, count, rungs]
      intro n hn k a b hk
      cases hn
      omega
  · simp only [Staging.Passes, count, rungs]
    intro h
    obtain ⟨k, a, hk, ha, hs⟩ := h 1 rfl
    interval_cases k
    have e : ((staged none [⟨800, true⟩] none).load (publishNote 1)).rung? 0 = some ⟨800, true⟩ := by decide +kernel
    rw [e] at ha
    cases ha
    exact absurd hs (by decide)
  · intro j hj
    interval_cases j
    · trivial
    · simp only [Staging.Passes, count]
      simp
    · simp only [Staging.Passes, count, rungs]
      intro n hn
      cases hn
      decide +kernel
    · simp only [Staging.Passes, count, rungs]
      intro n hn k a b hk
      cases hn
      omega
    · simp only [Staging.Passes, count, rungs]
      intro n hn
      cases hn
      exact ⟨0, ⟨800, false⟩, by omega, by decide +kernel, rfl⟩
  · simp only [Staging.Passes, count, rungs, fallback]
    intro h
    obtain ⟨f, a, hf, hl, -⟩ := h 1 rfl
    cases hf
    omega

/-- The staging ladder of three rungs that the publishing witnesses use. -/
def goodStaging : Staging := staged (some 3) [⟨800, true⟩, ⟨1600, false⟩, ⟨3000, false⟩] (some 1)

/-- The ladder it publishes; its lowest usable rung is rung 1. -/
def goodLadder : Ladder := { rungs := [⟨800, true⟩, ⟨1600, false⟩, ⟨3000, false⟩], fallback := 1 }

theorem witness_FirstPublishStartsStreaming :
    let s := stagedState goodStaging
    let g := (s.session 1).staging.load (publishNote 1)
    s.Hears batch ∧ (publishNote 1).session = (1 : SessionIx).val ∧ (publishNote 1).publish = true ∧
    (publishNote 1).malformed = false ∧
    ((s.session 1).admin = .primed ∧ (s.session 1).profile = some ({ session := 1 } : ProfileNote).build ∧
      (s.session 1).role = .independent ∧ (s.session 1).rung = none ∧ g.count = some goodLadder.rungs.length ∧
      g.fallback = some goodLadder.fallback ∧ (∀ k, k < goodLadder.rungs.length → g.rung? k = goodLadder.rungs[k]?) ∧
      1 < goodLadder.rungs.length ∧ goodLadder.usable 1 = true ∧ (∀ k, k < 1 → goodLadder.usable k = false)) ∧
    ∀ j, g.Passes j :=
  ⟨⟨rfl, rfl, rfl⟩, rfl, rfl, rfl, by decide +kernel,
    passes_all (n := 3) rfl (by decide +kernel) (by decide +kernel) ⟨1, ⟨1600, false⟩, by decide +kernel⟩
      ⟨1, ⟨1600, false⟩, by decide +kernel⟩⟩

/-- S2 STREAMING at rung 2 of its old ladder with a draw cap of rung 1, and the new ladder staged. -/
def republished : State :=
  put served 2 { streaming { session := 2 } (ladder [1000, 1700, 2000] 1) 2 with
    staging := goodStaging, draw.cap := some 1 }

theorem witness_RepublishCarriesRungsByBitrate :
    let g := (republished.session 2).staging.load (publishNote 2)
    let e := ({ session := 2 } : ProfileNote).build.effective
    (republished.Hears batch ∧ (publishNote 2).session = (2 : SessionIx).val ∧ (publishNote 2).publish = true ∧
      (publishNote 2).malformed = false) ∧
    ((republished.session 2).admin = .streaming ∧
      (republished.session 2).profile = some ({ session := 2 } : ProfileNote).build ∧
      (republished.session 2).eff = some e ∧ (republished.session 2).role = .independent ∧
      (republished.session 2).published = some (ladder [1000, 1700, 2000] 1) ∧ (republished.session 2).rung = some 2 ∧
      g.count = some goodLadder.rungs.length ∧ g.fallback = some goodLadder.fallback ∧
      (∀ k, k < goodLadder.rungs.length → g.rung? k = goodLadder.rungs[k]?) ∧
      1 < goodLadder.rungs.length ∧ goodLadder.usable 1 = true ∧ (∀ k, k < 1 → goodLadder.usable k = false) ∧
      (republished.session 2).draw.cap = some 1) ∧
    (∀ j, g.Passes j) ∧
    IsHighest goodLadder.rungs.length
      (fun k => goodLadder.usable k = true ∧ k ≤ e.ceiling ∧
        goodLadder.bitrate k ≤ (ladder [1000, 1700, 2000] 1).bitrate 1) 1 1 ∧
    IsHighest goodLadder.rungs.length
      (fun k => goodLadder.usable k = true ∧ (k = 1 ∨ (k ≤ e.ceiling ∧ ∀ d, (some 1 : Option Nat) = some d → k ≤ d)) ∧
        goodLadder.bitrate k ≤ (ladder [1000, 1700, 2000] 1).bitrate 2) 1 1 := by
  refine ⟨⟨⟨rfl, rfl, rfl⟩, rfl, rfl, rfl⟩, by decide +kernel,
    passes_all (n := 3) rfl (by decide +kernel) (by decide +kernel) ⟨1, ⟨1600, false⟩, by decide +kernel⟩
      ⟨1, ⟨1600, false⟩, by decide +kernel⟩, .inl (by decide +kernel), .inl ⟨by decide, ⟨by decide, .inl rfl, by decide⟩, ?_⟩⟩
  intro j hj h
  rcases h.2.1 with rfl | ⟨-, hc⟩
  · omega
  · exact hc 1 rfl

/-- The checks of a TETHER pass. -/
theorem tether_passes {s : State} {l f : SessionIx} (h1 : l ≠ f)
    (h2 : ∀ i, i = l ∨ i = f → (s.session i).admin = .primed ∨ (s.session i).admin = .streaming)
    (h3 : ∀ m, (s.session l).role ≠ .follower m) (h4 : (s.session f).role = .independent)
    (h5 : (s.session l).followers.length < 3) : ∀ k, s.TetherPasses l f k := by
  intro k
  unfold State.TetherPasses
  split
  · exact h1
  · exact h2
  · exact h3
  · exact h4
  · exact h5
  · trivial

/-- S1 STREAMING beside S2, and S2's ladder of three rungs. -/
def pair : State := put served 1 (streaming { session := 1 } (ladder [500, 900] 0) 1)

/-- A rung is allowed without a cap. -/
theorem allows_uncapped {l : Ladder} {low ceiling k : Nat} :
    l.Allows low ceiling none k ↔ l.usable k = true ∧ (k = low ∨ k ≤ ceiling) := by
  simp [Ladder.Allows]

/-- A rung is allowed under a cap. -/
theorem allows_capped {l : Ladder} {low ceiling c k : Nat} :
    l.Allows low ceiling (some c) k ↔ l.usable k = true ∧ (k = low ∨ (k ≤ ceiling ∧ k ≤ c)) := by
  simp [Ladder.Allows]

/-- A ladder's lowest rung, found by evaluation. -/
theorem lowest_of {l : Ladder} {low : Nat}
    (h : low < l.rungs.length ∧ l.usable low = true ∧ ∀ k, k < low → l.usable k = false) : l.IsLowest low := h

theorem witness_TetherFormsTheFollowerOrFails :
    let n : TetherNote := { leader := 1, follower := 2, map := some [0, 12] }
    let d := ladder [800, 1600, 3000] 1
    pair.Hears batch ∧ n.leader = (1 : SessionIx).val ∧ n.follower = (2 : SessionIx).val ∧ n.malformed = false ∧
    (∀ k, pair.TetherPasses 1 2 k) ∧
    ((pair.session 1).profile = some ({ session := 1 } : ProfileNote).build ∧
      (pair.session 2).profile = some ({ session := 2 } : ProfileNote).build) ∧
    pair.gate.askQueue = [] ∧ (∀ h ∈ (pair.session 1).followers, h.index ≠ 2) ∧ (pair.session 2).admin = .streaming ∧
    (pair.session 2).published = some d ∧ (pair.session 2).eff = some ({ session := 2 } : ProfileNote).build.effective ∧
    (pair.session 1).rung = some 1 ∧ 1 < 12 ∧ 0 < d.rungs.length ∧ d.usable 0 = true ∧
    (∀ k, k < 0 → d.usable k = false) :=
  ⟨⟨rfl, rfl, rfl⟩, rfl, rfl, rfl, tether_passes (by decide) (by decide +kernel) (by decide +kernel) (by decide +kernel)
      (by decide +kernel), by decide +kernel, by decide +kernel⟩

/-- An entry of a leader's list. -/
def entry (i : SessionIx) : FollowerEntry := { index := i, map := defaultMap 12, isDefault := true }

/-- S1 leads three sessions. -/
def crowded : State :=
  put pair 1 { streaming { session := 1 } (ladder [500, 900] 0) 1 with role := .leader [entry 4, entry 5, entry 6] }

theorem witness_TetherFormsTheFollowerOrFails_fails :
    (pair.Hears batch ∧ ({ leader := 16, follower := 0 } : TetherNote).malformed = false ∧ 15 < 16) ∧
    ¬ served.TetherPasses 1 0 2 ∧
    (pair.TetherPasses 1 1 2 ∧ (∀ j, j < 1 → pair.TetherPasses 1 1 j) ∧ ¬ pair.TetherPasses 1 1 1) ∧
    (followed.TetherPasses 2 1 2 ∧ (∀ j, j < 3 → followed.TetherPasses 2 1 j) ∧ ¬ followed.TetherPasses 2 1 3) ∧
    (let s := put pair 2 { streaming { session := 2 } (ladder [800] 0) 0 with role := .leader [entry 4] }
     s.TetherPasses 1 2 2 ∧ (∀ j, j < 4 → s.TetherPasses 1 2 j) ∧ ¬ s.TetherPasses 1 2 4) ∧
    (crowded.TetherPasses 1 2 2 ∧ (∀ j, j < 5 → crowded.TetherPasses 1 2 j) ∧ ¬ crowded.TetherPasses 1 2 5) := by
  refine ⟨⟨⟨rfl, rfl, rfl⟩, rfl, by decide⟩, ?_, ⟨?_, ?_, ?_⟩, ⟨?_, ?_, ?_⟩, ⟨?_, ?_, ?_⟩, ⟨?_, ?_, ?_⟩⟩ <;>
    first
    | (intro j hj; interval_cases j <;> first | trivial | (simp only [State.TetherPasses]; decide +kernel))
    | (simp only [State.TetherPasses]; decide +kernel)

/-- S1 leads S2 and S4, all STREAMING. -/
def led : State :=
  put (put (put pair 1 { streaming { session := 1 } (ladder [500, 900] 0) 1 with role := .leader [entry 2, entry 4] })
    2 { streaming { session := 2 } (ladder [800] 0) 0 with role := .follower 1 })
    4 { streaming { session := 4 } (ladder [800] 0) 0 with role := .follower 1 }

/-- S1 leads S2 and S4, all STREAMING, at rung 2 of four; S2 has three rungs, S4 two, and each its own index as its map. -/
def tethered (n : ProfileNote) : State :=
  put (put (put ready
    1 { streaming n (ladder [500, 900, 1700, 2500] 0) 2 with role := .leader [entry 2, entry 4] })
    2 { streaming { session := 2 } (ladder [800, 1000, 1200] 1) 2 with role := .follower 1 })
    4 { streaming { session := 4 } (ladder [800, 900] 0) 1 with role := .follower 1 }

theorem tethered_list (n : ProfileNote) : ((tethered n).session 1).followers = [entry 2, entry 4] := rfl

/-- Its leader under a ceiling of 1, which its rung exceeds; and the follower S2, whose rung is allowed. -/
theorem witness_LimitsLowerTheRung :
    let s := tethered { session := 1, defaultCeiling := some 1 }
    let e := ({ session := 1, defaultCeiling := some 1 } : ProfileNote).build.effective
    let l := ladder [500, 900, 1700, 2500] 0
    let m := ladder [800, 1000, 1200] 1
    ((s.session 1).admin = .streaming ∧ (s.session 1).published = some l ∧ (s.session 1).eff = some e ∧
      (s.session 1).rung = some 2 ∧ 0 ≤ 2 ∧ ((s.session 1).followers.map FollowerEntry.index).Nodup ∧
      ∀ f ∈ (s.session 1).followers, f.index ≠ 1) ∧
    l.IsLowest 0 ∧ ¬ l.Allows 0 e.ceiling (s.session 1).draw.cap 2 ∧
    ((s.session 2).admin = .streaming ∧ (s.session 2).published = some m ∧
      (s.session 2).eff = some ({ session := 2 } : ProfileNote).build.effective ∧ (s.session 2).rung = some 2) ∧
    m.IsLowest 0 ∧ m.Allows 0 ({ session := 2 } : ProfileNote).build.effective.ceiling (s.session 2).draw.cap 2 :=
  ⟨by decide +kernel, lowest_of (by decide +kernel), fun h => absurd (allows_uncapped.mp h) (by decide +kernel),
    by decide +kernel, lowest_of (by decide +kernel), allows_uncapped.mpr (by decide +kernel)⟩

/-- A session of the tether with the new ladder staged, before the publishing note. -/
def publishing (s : State) (i : SessionIx) : State := s.modSession i fun x => { x with staging := goodStaging }

theorem publishing_publishes (s : State) (i : SessionIx) (h : (publishing s i).Hears batch) :
    (publishing s i).Publishes batch (publishNote i.val) i (goodStaging.load (publishNote i.val)) goodLadder 1 where
  hears := h
  named := rfl
  publish := rfl
  wellFormed := by simp [publishNote, LadderNote.malformed]
  staged := by simp [publishing, State.modSession, State.session]
  count := rfl
  fallback := rfl
  rungs := by
    have : goodStaging.load (publishNote i.val) = goodStaging.load (publishNote 0) := rfl
    rw [this]; decide +kernel
  passes := by
    have : goodStaging.load (publishNote i.val) = goodStaging.load (publishNote 0) := rfl
    rw [this]
    exact passes_all (n := 3) rfl (by decide +kernel) (by decide +kernel) ⟨1, ⟨1600, false⟩, by decide +kernel⟩
      ⟨1, ⟨1600, false⟩, by decide +kernel⟩
  lowest := lowest_of (by decide +kernel)

/-- The leader publishing from PRIMED and from STREAMING; the follower S2 publishing while its leader holds rung 2, and, STREAMING
and PRIMED, while it holds none. -/
theorem witness_PublishInATether :
    let s := publishing (tethered { session := 1 }) 1
    let p := ({ session := 1 } : ProfileNote).build
    let fresh := publishing (put (tethered { session := 1 }) 1 { primed { session := 1 } with
      role := .leader [entry 2, entry 4] }) 1
    let old := ladder [500, 900, 1700, 2500] 0
    let u := publishing (tethered { session := 1 }) 2
    let v := publishing followed 2
    let w := publishing (put followed 2 { primed { session := 2 } with role := .follower 1 }) 2
    (s.Publishes batch (publishNote 1) 1 (goodStaging.load (publishNote 1)) goodLadder 1 ∧
      fresh.Publishes batch (publishNote 1) 1 (goodStaging.load (publishNote 1)) goodLadder 1 ∧
      u.Publishes batch (publishNote 2) 2 (goodStaging.load (publishNote 2)) goodLadder 1 ∧
      v.Publishes batch (publishNote 2) 2 (goodStaging.load (publishNote 2)) goodLadder 1 ∧
      w.Publishes batch (publishNote 2) 2 (goodStaging.load (publishNote 2)) goodLadder 1) ∧
    ((s.session 1).profile = some p ∧ (s.session 1).eff = some p.effective ∧
      (s.session 1).role = .leader [entry 2, entry 4] ∧ ([entry 2, entry 4].map FollowerEntry.index).Nodup ∧
      (∀ f ∈ [entry 2, entry 4], f.index ≠ 1) ∧ (fresh.session 1).admin = .primed ∧ (fresh.session 1).rung = none ∧
      (s.session 1).admin = .streaming ∧ (s.session 1).published = some old ∧ (s.session 1).rung = some 2 ∧
      (s.session 1).draw.cap = none) ∧
    IsHighest goodLadder.rungs.length (fun k => goodLadder.Allows 1 p.effective.ceiling none k ∧
      goodLadder.bitrate k ≤ old.bitrate 2) 1 1 ∧
    ((u.session 2).role = .follower 1 ∧ (u.session 1).role = .leader [entry 2, entry 4] ∧ entry 2 ∈ [entry 2, entry 4] ∧
      (entry 2).isDefault = true ∧ (u.session 2).admin = .streaming ∧ (u.session 1).rung = some 2 ∧
      (v.session 1).rung = none ∧ (v.session 2).admin = .streaming ∧ (v.session 2).draw.cap = none ∧
      (v.session 2).published = some (ladder [800, 1600, 3000] 1) ∧ (v.session 2).rung = some 1 ∧
      (w.session 1).rung = none ∧ (w.session 2).admin = .primed ∧ (w.session 2).rung = none) ∧
    IsHighest goodLadder.rungs.length (fun k => goodLadder.Allows 1 11 none k ∧ k ≤ ((defaultMap 3)[2]?).getD 0) 1 2 ∧
    IsHighest goodLadder.rungs.length (fun k => goodLadder.Allows 1 11 none k ∧
      goodLadder.bitrate k ≤ (ladder [800, 1600, 3000] 1).bitrate 1) 1 1 := by
  refine ⟨⟨publishing_publishes _ 1 ⟨rfl, rfl, rfl⟩, publishing_publishes _ 1 ⟨rfl, rfl, rfl⟩,
    publishing_publishes _ 2 ⟨rfl, rfl, rfl⟩, publishing_publishes _ 2 ⟨rfl, rfl, rfl⟩,
    publishing_publishes _ 2 ⟨rfl, rfl, rfl⟩⟩, by decide +kernel, ?_, by decide +kernel, ?_, ?_⟩ <;>
  · simp only [allows_uncapped, IsHighest]
    exact .inl (by decide +kernel)

theorem witness_UntetherReleasesTheFollower :
    (led.Hears batch ∧ (led.session 1).admin = .streaming ∧
      (led.session 1).profile = some ({ session := 1 } : ProfileNote).build ∧ (∀ l, (led.session 1).role ≠ .follower l)) ∧
    ((led.session 2).admin = .streaming ∧ (led.session 2).profile = some ({ session := 2 } : ProfileNote).build ∧
      (led.session 2).role = .follower 1 ∧ (led.session 1).role = .leader [entry 2, entry 4]) ∧
    (([entry 2, entry 4].map FollowerEntry.index).Nodup ∧
      (∀ e ∈ [entry 2, entry 4], e.index ≠ 1 ∧ (led.session e.index).role = .follower 1) ∧
      (led.session 4).profile = some ({ session := 4 } : ProfileNote).build ∧
      (3 : SessionIx) ≠ 1 ∧ ∀ e ∈ [entry 2, entry 4], e.index ≠ 3) :=
  ⟨⟨⟨rfl, rfl, rfl⟩, by decide +kernel⟩, by decide +kernel, by decide +kernel⟩

theorem witness_RearmRestoresWatching :
    let s := drawn { phase := .latched, cap := some 0 }
    (s.Hears batch ∧ (s.session 2).admin = .streaming ∧ (s.session 2).profile = some ({ session := 2 } : ProfileNote).build ∧
      (∀ l, (s.session 2).role ≠ .follower l) ∧ (s.session 2).draw.phase ≠ .off ∧ (s.session 2).draw.cap ≠ none) ∧
    ((drawn { phase := .off }).session 2).draw.phase = .off ∧ (led.session 2).role = .follower 1 :=
  ⟨⟨⟨rfl, rfl, rfl⟩, by decide +kernel⟩, by decide +kernel, by decide +kernel⟩

/-- A number of flows of one session, on rising local ports. -/
def flowsFrom (i : SessionIx) (n : Nat) : List FlowEntry :=
  (List.range n).map fun k => { flowEntry i with key := { flowKey with localPort := BitVec.ofNat 16 k } }

theorem witness_FlowsAreBoundUnboundAndExpire :
    let n : FlowNote := { session := 2, key := flowKey }
    (served.Hears batch ∧ n.session = (2 : SessionIx).val ∧ (served.session 2).admin ≠ .vacant) ∧
    (∃ e ∈ [flowEntry 4], e.key = n.key) ∧
    (∀ e ∈ flowsFrom 2 4, e.key ≠ n.key) ∧ 4 ≤ ((flowsFrom 2 4).filter fun e => decide (e.session = 2)).length ∧
    ((flowsFrom 2 3).filter fun e => decide (e.session = 2)).length < 4 ∧
    (∀ e ∈ flowsFrom 3 48, e.key ≠ n.key) ∧ ((flowsFrom 3 48).filter fun e => decide (e.session = 2)).length < 4 ∧
    48 ≤ (flowsFrom 3 48).length ∧ (flowsFrom 3 47).length < 48 ∧
    (∀ e ∈ [flowEntry 4], e.key = n.key → e.session ≠ 2) ∧
    (flowEntry 2 ∈ [flowEntry 2] ∧ (flowEntry 2).key = n.key ∧ (flowEntry 2).session = 2 ∧
      ([flowEntry 2].map FlowEntry.key).Nodup) :=
  ⟨⟨served_hears, by decide +kernel⟩, ⟨flowEntry 4, by decide +kernel⟩, by decide +kernel⟩

theorem witness_FlowsAreBoundUnboundAndExpire_idle :
    let s := { flowState with time := 140000 }
    (s.resetAsserted = false ∧ (s.flows.map FlowEntry.key).Nodup ∧ flowEntry 4 ∈ s.flows ∧ (flowEntry 4).key = flowKey ∧
      s.setup.idleLimit * 1000 ≤ elapsed s.time ((flowEntry 4).lastHit.getD (flowEntry 4).bindTime)) ∧
    (∀ e ∈ { flowState with time := 139999 }.flows, e.key = flowKey →
      elapsed 139999 (e.lastHit.getD e.bindTime) < { flowState with time := 139999 }.setup.idleLimit * 1000) ∧
    ∀ e ∈ flowState.flows, e.key = { flowKey with localPort := 1 } →
      elapsed flowState.time (e.lastHit.getD e.bindTime) < flowState.setup.idleLimit * 1000 := by decide +kernel

theorem witness_AskJoinsTheQueue :
    let n : AskNote := { session := 2, segment := 1, duration := 249, flush := true }
    (served.Hears batch ∧ n.session = (2 : SessionIx).val ∧ (served.session 2).admin = .streaming ∧
      (∀ a ∈ served.gate.askQueue, a.session ≠ 2) ∧ n.flush = true ∧ served.IsContenderOf 2 2 ∧
      (served.session 2).profile = some ({ session := 2 } : ProfileNote).build) ∧
    (led.IsContenderOf 2 1 ∧ (led.session 1).profile = some ({ session := 1 } : ProfileNote).build) ∧
    (∀ c, ¬ followed.IsContenderOf 2 c) ∧ ({ n with flush := false }).flush = false ∧
    ∃ a ∈ { served with gate.askQueue := [⟨2, 1, 4000, false, 0⟩] }.gate.askQueue, a.session = 2 := by
  refine ⟨⟨served_hears, rfl, rfl, by decide +kernel, rfl, ⟨.inr ⟨rfl, by decide +kernel⟩, rfl⟩, rfl⟩,
    ⟨⟨.inl rfl, rfl⟩, rfl⟩, ?_, rfl, _, List.mem_singleton.mpr rfl, rfl⟩
  rintro c ⟨h | ⟨rfl, h⟩, hs⟩
  · cases h
    exact absurd hs (by decide +kernel)
  · exact h 1 rfl

/-- S2 with an outstanding limit of 2, its tag 0 held by slot 0, and its next tag 0. -/
def asking : State :=
  (put served 2 (streaming { session := 2, outstandingLimit := some 2 } (ladder [800, 1600, 3000] 1) 1)).setSlot 0
    (some (granted 2 0 0))

theorem witness_EligibleAskIsGranted :
    let p := ({ session := 2, outstandingLimit := some 2 } : ProfileNote).build
    (asking.Hears batch ∧ asking.control.claim = some ⟨part, player⟩) ∧
    { asking with path.reportQueue := List.replicate 6 closedFrame }.path.reportQueue.length < 7 ∧
    (asking.gate.askQueue = [] ∧ (asking.session 2).admin = .streaming ∧ (asking.session 2).role = .independent ∧
      (asking.session 2).eff = some p.effective ∧ (asking.session 2).profile = some p ∧
      (asking.session 2).published = some (ladder [800, 1600, 3000] 1) ∧ asking.gate.spacingHold = none ∧
      asking.occupiedCount < asking.setup.maxOutstanding ∧ (asking.slotsOf 2).length < p.outstandingLimit ∧
      asking.projected 2 < p.effective.target ∧ asking.slot 1 = none ∧ (∀ m, m < 1 → asking.slot m ≠ none)) ∧
    (1 < 8 ∧ (asking.session 2).nextTag + BitVec.ofNat 8 1 = 1) ∧
    (∀ m x, asking.slot m = some x → x.session = 2 → x.tag ≠ 1) ∧
    (∀ j, j < 1 → ∃ m x, asking.slot m = some x ∧ x.session = 2 ∧ x.tag = (asking.session 2).nextTag + BitVec.ofNat 8 j) :=
  ⟨⟨⟨rfl, rfl, rfl⟩, rfl⟩, by decide, by decide +kernel, by decide +kernel, every_slot (by decide +kernel), fun j h => by
    interval_cases j
    exact ⟨0, granted 2 0 0, by decide +kernel⟩⟩

/-- S2 and S9 with a queued ask each: S9's, behind, is of a lower class, and both are eligible; S9's staircase is marked to
open. -/
def queued : State :=
  { put (put ready 2 (streaming { session := 2 } (ladder [800, 1600, 3000] 1) 1))
      9 { streaming { session := 9, cls := some .background } (ladder [800] 0) 0 with
        draw.phase := .watching, draw.openMark := true } with
    gate.askQueue := [⟨2, 1, 4000, false, 900⟩, ⟨9, 1, 4000, false, 950⟩] }

/-- S2 PLAYING at an anchor taken now, with a queued ask. -/
def draining (anchor : Nat) : State :=
  queued.modSession 2 fun x => { x with buffer.playback := .playing, buffer.anchor := anchor, buffer.anchorTime := 1000 }

theorem witness_QueueIsExamined :
    let p := ({ session := 2 } : ProfileNote).build
    let back := ({ session := 9, cls := some .background } : ProfileNote).build
    ((queued.session 2).profile = some p ∧ (queued.session 2).eff = some p.effective) ∧
    (queued.chooseAsk = some ⟨2, 1, 4000, false, 900⟩ ∧ queued.setup.grantSpacing ≠ 0 ∧ served.chooseAsk = none ∧
      { queued with setup.grantSpacing := 0 }.chooseAsk = some ⟨2, 1, 4000, false, 900⟩ ∧
      { queued with setup.grantSpacing := 0 }.setup.grantSpacing = 0) ∧
    ((∀ a ∈ queued.gate.askQueue, a.session ≠ 0) ∧ (∃ a ∈ (draining 30000).gate.askQueue, a.session = 2) ∧
      ((draining 30000).session 2).profile = some p ∧ ((draining 30000).session 2).eff = some p.effective ∧
      p.effective.target ≤ (draining 30000).projection 2 ∧ ((draining 30000).session 2).buffer.playback = .playing ∧
      30000 + 1 - p.effective.target ≤ ((draining 30000).session 2).level 1000 ∧
      (draining 29999).projection 2 < p.effective.target) ∧
    (draining 30000).Admits 2 p.outstandingLimit ∧ ¬ { draining 30000 with gate.spacingHold := some 1 }.Admits 2 p.outstandingLimit ∧
    ((queued.session 9).published = some (ladder [800] 0) ∧ (queued.session 9).eff = some back.effective ∧
      ((State.judge { queued with gate.askQueue := [⟨2, 1, 4000, false, 900⟩] } 9).session 9).rung = some 0 ∧
      queued.slot 0 = none ∧ (∀ m, m < 0 → queued.slot m ≠ none) ∧ 0 < 8 ∧ (queued.session 9).profile = some back ∧
      back.drawKind = .start ∧ (queued.session 9).draw.phase = .watching ∧ (queued.session 9).draw.openMark = true ∧
      (queued.session 2).draw.openMark = false ∧ queued.control.claim = some ⟨part, player⟩ ∧
      queued.path.reportQueue.length < 8) ∧
    queued.IsContenderOf 9 9 ∧ (∀ m x, queued.slot m = some x → x.session = 9 → x.tag ≠ 0) := by
  refine ⟨by decide +kernel, by decide +kernel, by decide +kernel, by unfold State.Admits; decide +kernel,
    by unfold State.Admits; decide +kernel, by decide +kernel, ⟨.inr ⟨rfl, by decide +kernel⟩, rfl⟩,
    every_slot (by decide +kernel)⟩

/-- A slot of S2 that received 24,000 octets over 20 ms. -/
def received : Slot := { granted 2 5 0 with phase := .receiving 500 520, bytes := 24000 }

theorem witness_DoneCompletesTheFetch :
    let s := served.setSlot 3 (some received)
    let t := led.setSlot 3 (some received)
    let p := ({ session := 2 } : ProfileNote).build
    (s.Hears batch ∧ (s.session 2).admin = .streaming ∧ (∀ l, (s.session 2).role ≠ .follower l) ∧
      (s.session 2).eff = some p.effective ∧ (s.session 2).profile = some p ∧ s.slot 3 = some received ∧
      received.session = 2 ∧ received.tag = 5) ∧
    (∀ m y, s.slot m = some y → m ≠ 3 → y.session = 2 → y.tag ≠ 5) ∧
    (t.Hears batch ∧ (t.session 2).admin = .streaming ∧ (t.session 2).role = .follower 1 ∧ (1 : SessionIx) ≠ 2 ∧
      (t.session 2).eff = some p.effective ∧ (t.session 1).profile = some ({ session := 1 } : ProfileNote).build ∧
      t.slot 3 = some received ∧ (t.session 1).admin = .streaming ∧ (followed.session 1).admin ≠ .streaming) ∧
    (∀ m y, t.slot m = some y → m ≠ 3 → y.session = 2 → y.tag ≠ 5) ∧
    (∀ first last, received.phase = .receiving first last →
      some 9600 = if received.bytes < 24000 ∨ elapsed last first < 20 then none
        else some (min 1000000 (received.bytes * 8 / elapsed last first))) ∧
    (granted 2 5 0).phase = .granted := by
  refine ⟨⟨⟨rfl, rfl, rfl⟩, by decide +kernel⟩, every_slot (by decide +kernel), ⟨⟨rfl, rfl, rfl⟩, by decide +kernel⟩,
    every_slot (by decide +kernel), ?_, rfl⟩
  intro first last h
  cases h
  decide

theorem witness_AbandonedAndLateFetches :
    let s := served.setSlot 3 (some received)
    let late := put served 2 { streaming { session := 2 } (ladder [800] 0) 0 with expiredTags := [9] }
    (s.Hears batch ∧ (s.session 2).admin = .streaming ∧ s.slot 3 = some received ∧ received.session = 2 ∧
      received.tag = 5) ∧
    (∀ m y, s.slot m = some y → m ≠ 3 → y.session = 2 → y.tag ≠ 5) ∧
    (late.Hears batch ∧ (late.session 2).admin = .streaming ∧ 9 ∈ (late.session 2).expiredTags ∧
      8 ∉ (late.session 2).expiredTags) ∧
    (∀ k x, late.slot k = some x → x.session = 2 → x.tag ≠ 9) :=
  ⟨⟨⟨rfl, rfl, rfl⟩, by decide +kernel⟩, every_slot (by decide +kernel), ⟨⟨rfl, rfl, rfl⟩, by decide +kernel⟩,
    every_slot (by decide +kernel)⟩

/-- A PLAY that changes the state, gives a level beyond its range and hints for a ceiling and a speed; and one that changes nothing
but the report: each with the values and the buffer model that its hypotheses ask for. -/
theorem witness_PlayReportsAndHints :
    let p := ({ session := 2 } : ProfileNote).build
    let g := p.effective
    let x := served.session 2
    let n : PlayNote := { session := 2, state := .playing, level := some 120001, ceiling := some 12, speed := some 12 }
    let h := { g with ceiling := 11, ceilingSource := .hint, speed := 12, speedSource := .hint }
    let buf : BufferModel := { playback := .playing, anchor := 120000, anchorTime := 1000, emptyPoint := some 81000
                               freshness := .fresh, freshTimer := some 4000 }
    let free := ({ session := 2, freshnessLimit := .absent, pins := some ⟨true, true, true⟩ } : ProfileNote).build
    (served.Hears batch ∧ n.session = (2 : SessionIx).val ∧ x.admin = .streaming ∧ x.profile = some p ∧ x.eff = some g ∧
      p.pins.ceiling = false ∧ p.pins.target = false ∧ p.pins.speed = false ∧ n.ceiling.elim g.ceiling (clampTo 0 11) = h.ceiling ∧
      n.target.elim g.target (clampTo 2000 120000) = h.target ∧ n.speed.elim g.speed (clampTo 4 16) = h.speed) ∧
    (n.state ≠ x.buffer.playback ∧ buf.anchor = n.level.elim (x.level served.time) (min 120000) ∧
      buf.anchorTime = served.time ∧
      buf.emptyPoint = some (later served.time (ceilDiv (buf.anchor * 8) h.speed)) ∧ p.freshnessLimit = some 3000 ∧
      n.state ≠ .stopped ∧ x.buffer.freshness ≠ .blind ∧ buf.freshTimer = some (later served.time 3000) ∧ 11 < 12) ∧
    (({ session := 2, state := .stopped } : PlayNote).state = x.buffer.playback ∧
      ({ session := 2, state := .stopped } : PlayNote).level = none) ∧
    free.freshnessLimit = none ∧ free.pins.ceiling = true ∧ free.pins.target = true ∧ free.pins.speed = true :=
  ⟨⟨served_hears, by decide +kernel⟩, by decide +kernel⟩

/-- The first slot RECEIVING, so that the meter is busy. -/
def busy : State := served.setSlot 0 (some received)

theorem witness_LinkMeterSamples :
    (busy.resetAsserted = false ∧ busy.meterBusy = true ∧ busy.meter.busyAcc < 500) ∧
    500 ≤ { busy with meter.busyAcc := 500 }.meter.busyAcc ∧ { busy with meter.busyAcc := 499 }.meter.busyAcc < 500 ∧
    served.meterBusy = false := by decide +kernel

/-- Every quiet timer of S2 at a device time. -/
def timed (d : Time) : State :=
  { put served 2 { streaming { session := 2 } (ladder [800] 0) 0 with
      upHold := some d, drainTimer := some d, buffer.emptyPoint := some d, buffer.freshTimer := some d } with
    gate.spacingHold := some d }

theorem witness_TimersExpire :
    ((timed 1000).resetAsserted = false ∧ ((timed 1000).session 2).buffer.emptyPoint = some 1000 ∧
      ((timed 1000).session 2).upHold = some 1000 ∧ (timed 1000).gate.spacingHold = some 1000 ∧
      ((timed 1000).session 2).drainTimer = some 1000 ∧ reached (timed 1000).time 1000 = true) ∧
    (∀ d, ((timed 1001).session 2).buffer.emptyPoint = some d → reached (timed 1001).time d = false) ∧
    (∀ d, ((timed 1001).session 2).upHold = some d → reached (timed 1001).time d = false) ∧
    (∀ d, (timed 1001).gate.spacingHold = some d → reached (timed 1001).time d = false) ∧
    ∀ d, (served.session 2).drainTimer = some d → reached served.time d = false :=
  ⟨by decide +kernel, every_value (by decide +kernel), every_value (by decide +kernel), every_value (by decide +kernel),
    every_value (by decide +kernel)⟩

theorem witness_TimersExpire_freshness :
    ((timed 1000).resetAsserted = false ∧ ((timed 1000).session 2).buffer.freshTimer = some 1000 ∧
      reached (timed 1000).time 1000 = true ∧ ((timed 1000).session 2).buffer.freshness = .fresh) ∧
    (let s := (timed 1000).modSession 2 fun x => { x with buffer.freshness := .recovering }
     (s.session 2).buffer.freshTimer = some 1000 ∧ (s.session 2).buffer.freshness = .recovering) ∧
    ∀ d, ((timed 1001).session 2).buffer.freshTimer = some d → reached (timed 1001).time d = false :=
  ⟨by decide +kernel, by decide +kernel, every_value (by decide +kernel)⟩

/-- S2's slot 3 at its deadline, with a miss run. -/
def missing (run : Nat) : State :=
  { (put served 2 { streaming { session := 2 } (ladder [800, 1600] 0) 1 with missRun := run }).setSlot 3
      (some (granted 2 5 0)) with time := 9000 }

theorem witness_DeadlinePasses :
    let p := ({ session := 2 } : ProfileNote).build
    let t := fun run => { ((tethered { session := 1 }).modSession 1 fun x => { x with missRun := run }).setSlot 3
      (some (granted 2 5 0)) with time := 9000 }
    ((missing 0).resetAsserted = false ∧ (missing 0).slot 2 = none ∧ (missing 0).slot 3 = some (granted 2 5 0) ∧
      (granted 2 5 0).missed = false ∧ (granted 2 5 0).deadline = some 9000 ∧ reached (missing 0).time 9000 = true ∧
      ((missing 0).session 2).admin = .streaming ∧ ((missing 0).session 2).profile = some p ∧
      (∀ l, ((missing 0).session 2).role ≠ .follower l) ∧ ((missing 0).session 2).published = some (ladder [800, 1600] 0) ∧
      (((missing 0).judge 2).session 2).rung = some 0 ∧
      (missing 0).control.claim = some ⟨part, player⟩ ∧ (missing 0).path.reportQueue.length < 8) ∧
    ((missing 0).session 2).missRun + 1 < max 1 p.stallThreshold ∧
    max 1 p.stallThreshold ≤ ((missing 1).session 2).missRun + 1 ∧
    { granted 2 5 0 with missed := true }.missed = true ∧
    (∀ d, (granted 2 5 0).deadline = some d → reached { missing 0 with time := 8999 }.time d = false) ∧
    (((t 1).session 2).role = .follower 1 ∧ ((t 1).session 1).profile = some ({ session := 1 } : ProfileNote).build ∧
      (t 1).slot 3 = some (granted 2 5 0) ∧ reached (t 1).time 9000 = true ∧
      max 1 ({ session := 1 } : ProfileNote).build.stallThreshold ≤ ((t 1).session 1).missRun + 1 ∧
      ((t 1).session 1).admin = .streaming ∧ (((t 1).session 1).followers.map FollowerEntry.index).Nodup ∧
      (∀ f ∈ ((t 1).session 1).followers, f.index ≠ 1) ∧ entry 4 ∈ ((t 1).session 1).followers ∧
      ((t 1).session 4).admin = .streaming ∧ ((t 1).session 4).published = some (ladder [800, 900] 0) ∧
      ((t 1).session 4).eff = some ({ session := 4 } : ProfileNote).build.effective) ∧
    (ladder [800, 900] 0).IsLowest 0 ∧
    ((followed.session 2).role = .follower 1 ∧ (followed.session 1).admin ≠ .streaming ∧
      (followed.session 1).profile = some ({ session := 1 } : ProfileNote).build) :=
  ⟨by decide +kernel, by decide +kernel, by decide +kernel, rfl, every_value (by decide +kernel), by decide +kernel,
    lowest_of (by decide +kernel), by decide +kernel⟩

/-- R100: a resync of a leader that stands at its fallback already derives its followers all the same. -/
theorem test_resync_derives_the_followers :
    let s := (tethered { session := 1 }).modSession 1 fun x => { x with rung := some 0, missRun := 1 }
    let t := after (.deadline 3) { s.setSlot 3 (some (granted 2 5 0)) with time := 9000 }
    (s.session 2).rung = some 2 ∧ (t.session 1).rung = some 0 ∧ (t.session 2).rung = some 0 ∧
    (t.session 2).stats.rungMovesDown = 1 ∧ (t.session 1).stats.rungMovesDown = 0 := by decide +kernel

theorem witness_TimersExpire_expiry :
    let s := { missing 0 with time := 20100 }
    s.resetAsserted = false ∧ s.slot 2 = none ∧ s.slot 3 = some (granted 2 5 0) ∧
    reached s.time (granted 2 5 0).expiry = true ∧
    reached { missing 0 with time := 20099 }.time (granted 2 5 0).expiry = false := by decide +kernel

/-- Time passes in a quiet part; every timer of S2 and both slot times are due when they are reached. -/
theorem witness_DeviceTimePassesWhenNothingIsDue :
    (let s := { ready with resetAsserted := true }
     s.resetAsserted = true ∧ s.pending = [] ∧ Instr.batch ≠ .powerOn ∧ Instr.batch ≠ .resetInput ∧
     Instr.batch ≠ .resetInputRelease) ∧
    (quiet.resetAsserted = false ∧ quiet.pending = [] ∧ quiet.NothingDue) ∧
    ((timed 1000).resetAsserted = false ∧ (timed 1000).pending = [] ∧ (timed 1000).dueCommands ≠ [] ∧
      (timed 1000).control.resetPhase ≠ .due ∧ reached (timed 1000).time 1000 = true ∧
      ((timed 1000).session 2).buffer.emptyPoint = some 1000 ∧ ((timed 1000).session 2).buffer.freshTimer = some 1000 ∧
      ((timed 1000).session 2).upHold = some 1000 ∧ ((timed 1000).session 2).drainTimer = some 1000 ∧
      (timed 1000).gate.spacingHold = some 1000) ∧
    (let s := drawn { phase := .retryWait, retryTimer := some 1000 }
     reached s.time 1000 = true ∧ (s.session 2).draw.phase = .retryWait ∧ (s.session 2).draw.retryTimer = some 1000) ∧
    ((missing 0).slot 3 = some (granted 2 5 0) ∧ (granted 2 5 0).missed = false ∧
      (granted 2 5 0).deadline = some 9000 ∧ reached (missing 0).time 9000 = true ∧
      reached { missing 0 with time := 20100 }.time (granted 2 5 0).expiry = true) ∧
    { quiet with windowDue := true }.windowDue = true ∧ { quiet with control.resetPhase := .due }.control.resetPhase = .due :=
  ⟨by decide +kernel, ⟨rfl, rfl, quiet_nothingDue⟩, by decide +kernel⟩

/-- S9 LIVE with a draw above its high limit in a settled on-window, and S2 in need; retries used is given. -/
def overdrawing (used : Nat) : State :=
  { (put (put ready 9 { streaming { session := 9, drawKind := some .live } (ladder [1000, 2000, 3000] 0) 2 with
        shares := some { share := 3200, floorNeed := 1000, capNeed := 3000 }
        draw := { phase := .watching, settled := true, windowBytes := 100013, receivingMark := true, retriesUsed := used } })
      2 (streaming { session := 2 } (ladder [500, 1000] 0) 0)).setSlot 7 (some (granted 2 1 0)) with time := 702000 }

theorem witness_DrawWindowIsTaken :
    let p := ({ session := 9, drawKind := some .live } : ProfileNote).build
    ((overdrawing 2).resetAsserted = false ∧ (overdrawing 2).time.toNat % 100 = 0 ∧
      { overdrawing 2 with time := 702001 }.time.toNat % 100 ≠ 0) ∧
    ([(9 : SessionIx)] = 9 :: [] ∧ [(9 : SessionIx)].Nodup ∧ ((overdrawing 2).session 9).admin = .streaming ∧
      ((overdrawing 2).session 9).role = .independent ∧ ((overdrawing 2).session 9).profile = some p ∧
      ((overdrawing 2).session 9).shares = some { share := 3200, floorNeed := 1000, capNeed := 3000 } ∧
      p.drawKind = .live ∧ ((overdrawing 2).session 9).draw.phase = .watching ∧
      ((overdrawing 2).session 9).draw.settled = true ∧ ((overdrawing 2).session 9).draw.receivingMark = true ∧
      (overdrawing 2).contended 9 = true ∧
      3200 * (overdrawing 2).setup.low / 16 ≤ 3200 * (overdrawing 2).setup.high / 16 ∧
      3200 * (overdrawing 2).setup.high / 16 < ((overdrawing 2).session 9).draw.windowBytes * 8 / 100) ∧
    ((overdrawing 2).session 9).draw.retriesUsed < p.retryLimit ∧
    p.retryLimit ≤ ((overdrawing 3).session 9).draw.retriesUsed := by decide +kernel

/-- S1 of the tether, START or LIVE, on an on-window, with a stage clock, an over-time and window bytes; S7, in need, makes the
window contended. -/
def windowed (kind : DrawKind) (clock overTime bytes : Nat) : State :=
  { (put ((tethered { session := 1, drawKind := some kind }).modSession 1 fun x => { x with
        shares := some { share := 3200, floorNeed := 500, capNeed := 2500 }
        draw := { phase := .watching, settled := true, stageClock := clock, overTime := overTime, windowBytes := bytes
                  receivingMark := true } })
      7 (streaming { session := 7 } (ladder [500, 1000] 0) 0)).setSlot 7 (some (granted 7 1 0)) with time := 702000 }

/-- Limits of 8,000, 5,600 and 4,000: a draw at each limit and one above it, in each stage and over-time. -/
theorem witness_WindowsAreJudged :
    let s := windowed .start 0 0 100000
    let p := ({ session := 1, drawKind := some .start } : ProfileNote).build
    let live := ({ session := 1, drawKind := some .live } : ProfileNote).build
    ((s.session 1).profile = some p ∧ ((windowed .live 0 0 0).session 1).profile = some live ∧ p.drawKind = .start ∧
      live.drawKind = .live ∧ (s.session 1).admin = .streaming ∧ (s.session 1).follows = false ∧
      (s.session 1).draw.phase = .watching ∧ (s.session 1).draw.settled = true ∧ (s.session 1).draw.openMark = false ∧
      (s.session 1).draw.receivingMark = true ∧
      (s.session 1).shares = some { share := 3200, floorNeed := 500, capNeed := 2500 }) ∧
    ((7 : SessionIx) ≠ 1 ∧ (s.session 7).isContender = true ∧
      (s.session 7).eff = some ({ session := 7 } : ProfileNote).build.effective ∧ 7 ∈ s.streamingMembers 7 ∧
      s.slot 7 = some (granted 7 1 0) ∧ (s.session 7).level s.time < ({ session := 7 } : ProfileNote).build.effective.lowGuard) ∧
    (3200 * s.setup.high / 16 = 8000 ∧ 3200 * s.setup.mid / 16 = 5600 ∧ 3200 * s.setup.low / 16 = 4000 ∧
      100000 * 8 / 100 = 8000 ∧ 100013 * 8 / 100 = 8001 ∧ 70013 * 8 / 100 = 5601 ∧ 50013 * 8 / 100 = 4001) ∧
    (s.setup.wA = 2000 ∧ s.setup.wA + s.setup.wB = 8000 ∧ 1500 ≤ s.setup.wS ∧ s.setup.wS < 1501 ∧ 3000 ≤ s.setup.wM ∧
      s.setup.wM < 3001) ∧
    (served.session 2).draw.phase = .off ∧
    ∀ m, (served.session m).draw.receivingMark = false := by decide +kernel

/-- The draw at the high limit of stage A advances the clock, and one above it is an overdraw; LIVE above its low limit marks the
members' slots; the over-time of Steady reaches its bound. -/
theorem test_window_stages :
    let ended := fun s : State => s.evaluateWindow 1
    ((ended (windowed .start 1900 0 100000)).session 1).draw.stageClock = 2000 ∧
    ((ended (windowed .start 1900 0 100013)).session 1).draw.phase = .retryWait ∧
    ((ended (windowed .start 2000 0 70013)).session 1).draw.phase = .retryWait ∧
    ((ended (windowed .start 8000 1400 50013)).session 1).draw.overTime = 1500 ∧
    ((ended (windowed .start 8000 1500 50013)).session 1).draw.phase = .retryWait ∧
    ((ended ((windowed .live 0 0 50013).setSlot 0 (some received))).slot 0).map Slot.overLow = some true := by decide +kernel

/-- The tether's leader at rung 2 with a lower rung to go to, with retries to use and without; and its lowest rung. -/
theorem witness_OverdrawDemotes :
    let s := tethered { session := 1 }
    let p := ({ session := 1 } : ProfileNote).build
    let l := ladder [500, 900, 1700, 2500] 0
    let low := s.modSession 1 fun x => { x with rung := some 0, draw.retriesUsed := 3 }
    ((s.session 1).admin = .streaming ∧ (∀ m, (s.session 1).role ≠ .follower m) ∧ (s.session 1).profile = some p ∧
      (s.session 1).published = some l ∧ (s.session 1).eff = some p.effective ∧ (s.session 1).rung = some 2 ∧
      ((s.session 1).followers.map FollowerEntry.index).Nodup ∧ (∀ f ∈ (s.session 1).followers, f.index ≠ 1) ∧
      ¬ p.retryLimit ≤ (s.session 1).draw.retriesUsed ∧ (low.session 1).rung = some 0 ∧
      p.retryLimit ≤ (low.session 1).draw.retriesUsed) ∧
    l.IsLowest 0 ∧ IsHighest l.rungs.length (fun k => l.Allows 0 p.effective.ceiling none k ∧ k < 2) 0 1 ∧
    IsHighest l.rungs.length (fun k => l.Allows 0 p.effective.ceiling none k ∧ k < 0) 0 0 := by
  refine ⟨by decide +kernel, lowest_of (by decide +kernel), ?_, .inr ⟨fun j _ h => absurd h.2 (Nat.not_lt_zero j), rfl⟩⟩
  simp only [allows_uncapped, IsHighest]
  exact .inl (by decide +kernel)

theorem witness_RetryRestoresWatching :
    let s := drawn { phase := .retryWait, cap := some 0, retryTimer := some 1000 }
    let p := ({ session := 2 } : ProfileNote).build
    (s.resetAsserted = false ∧ (s.session 2).draw.phase = .retryWait ∧ (s.session 2).draw.retryTimer = some 1000 ∧
      reached s.time 1000 = true ∧ (s.session 2).profile = some p ∧ p.drawKind ≠ .unwatched) ∧
    ((drawn { phase := .watching }).session 2).draw.phase ≠ .retryWait ∧
    (∀ d, ((drawn { phase := .retryWait, retryTimer := some 1001 }).session 2).draw.retryTimer = some d →
      reached served.time d = false) :=
  ⟨by decide +kernel, by decide +kernel, every_value (by decide +kernel)⟩

theorem witness_SharesAndSpareMakeTheTotal :
    let floors := fun s : State => ((allSessions.filter fun i => (s.session i).isContender).map s.floorNeed).sum
    let low := { served with meter.estimate := 985 }
    let s := tethered { session := 1 }
    (floors served = 800 ∧ low.meter.estimate * low.setup.margin / 16 ≤ floors low) ∧
    (floors served < 986 * served.setup.margin / 16 ∧ (served.session 2).isContender = true ∧
      (served.session 1).isContender = false) ∧
    ((s.session 1).isContender = true ∧ (s.session 1).published = some (ladder [500, 900, 1700, 2500] 0) ∧
      (s.session 1).eff = some ({ session := 1 } : ProfileNote).build.effective ∧
      (s.session 1).followers[1]? = some (entry 4) ∧ (s.session 4).admin = .streaming ∧
      (s.session 4).published = some (ladder [800, 900] 0) ∧
      (s.session 4).eff = some ({ session := 4 } : ProfileNote).build.effective) ∧
    (ladder [500, 900, 1700, 2500] 0).IsLowest 0 ∧ (ladder [800, 900] 0).IsLowest 0 :=
  ⟨by decide +kernel, by decide +kernel, by decide +kernel, lowest_of (by decide +kernel), lowest_of (by decide +kernel)⟩

/-- S0 of 6.11: rung 3 of six, a share of 6,266, at a level. -/
def judged (level : Nat) : State :=
  put ready 0 { streaming { session := 0 } (ladder [800, 1600, 3000, 4500, 6000, 8000] 1) 3 with
    shares := some { share := 6266, floorNeed := 800, capNeed := 8000 }, buffer.anchor := level }

theorem witness_VerdictFollowsTheZone :
    let lad := ladder [800, 1600, 3000, 4500, 6000, 8000] 1
    let e := ({ session := 0 } : ProfileNote).build.effective
    ((judged 10000).session 0).role = .independent ∧ ((judged 10000).session 0).published = some lad ∧
    ((judged 10000).session 0).eff = some e ∧ ((judged 10000).session 0).rung = some 3 ∧
    ((judged 10000).session 0).shares = some { share := 6266, floorNeed := 800, capNeed := 8000 } ∧
    0 < lad.rungs.length ∧ lad.usable 0 = true ∧ ((judged 10000).session 0).buffer.freshness = .fresh ∧
    ((judged 10000).session 0).buffer.playback ≠ .stalled ∧ ((judged 10000).session 0).upHold = none ∧
    ((judged 3999).session 0).level 1000 < e.panicLevel ∧ e.panicLevel ≤ ((judged 4000).session 0).level 1000 ∧
    ((judged 9999).session 0).level 1000 < e.lowGuard ∧ e.lowGuard ≤ ((judged 10000).session 0).level 1000 ∧
    ((judged 29999).session 0).level 1000 < e.target ∧ e.target ≤ ((judged 30000).session 0).level 1000 := by
  decide +kernel

/-- At a level of 10,000 the candidate of that witness is rung 4, and the verdict one rung up is rung 4. -/
theorem witness_VerdictFollowsTheZone_candidate :
    let lad := ladder [800, 1600, 3000, 4500, 6000, 8000] 1
    let allowed := fun j => lad.usable j = true
    IsHighest lad.rungs.length (fun j => allowed j ∧ (lad.bitrate j * 8 + 7) / 8 ≤ 6266) 0 4 ∧ 3 < 4 ∧
    4 < lad.rungs.length ∧ allowed 4 ∧ (∀ j, j < 4 → 3 < j → ¬ allowed j) ∧ (judged 10000).verdict 0 = 4 :=
  ⟨.inl (by decide +kernel), by decide, by decide, by decide +kernel, by decide +kernel, by decide +kernel⟩

/-- The zone level of the tether is S4's, and its combined need is the sum of three. -/
theorem witness_VerdictFollowsTheZone_members :
    let s := ((((tethered { session := 1 }).modSession 1 fun x => { x with
        buffer.anchor := 20000, shares := some { share := 6266, floorNeed := 2100, capNeed := 4600 } }).modSession 2 fun x =>
      { x with buffer.anchor := 15000 }).modSession 4 fun x => { x with buffer.anchor := 12000 })
    (∀ l, (s.session 1).role ≠ .follower l) ∧ (s.session 1).rung = some 2 ∧
    (s.session 1).shares = some { share := 6266, floorNeed := 2100, capNeed := 4600 } ∧
    (∀ m, m ∈ s.members 1 → 12000 ≤ (s.session m).level s.time ∧ (s.session m).buffer.freshness = .fresh) ∧
    (s.session 4).admin = .streaming ∧ (s.session 4).level s.time = 12000 ∧ s.combinedNeed 1 2 = 1700 + 1200 + 900 := by
  decide +kernel

/-- An independent session and its own judgement, a follower and its leader's, and a follower whose leader is not STREAMING. -/
theorem witness_JudgementIsApplied :
    let s := tethered { session := 1 }
    let t := { s with time := 9000 }
    ((∀ m, ((judged 10000).session 0).role ≠ .follower m) ∧ ((judged 10000).session 0).rung = some 3 ∧
      (judged 10000).verdict 0 = 4 ∧ ((judged 10000).session 0).profile = some ({ session := 0 } : ProfileNote).build ∧
      ((judged 10000).session 0).followers = []) ∧
    ((t.session 2).role = .follower 1 ∧ (t.session 1).admin = .streaming ∧ (t.session 1).rung = some 2 ∧
      (t.session 1).profile = some ({ session := 1 } : ProfileNote).build ∧
      ((t.session 1).followers.map FollowerEntry.index).Nodup ∧ (∀ f ∈ (t.session 1).followers, f.index ≠ 1) ∧
      t.verdict 1 = 0) ∧
    ((followed.session 2).role = .follower 1 ∧ (followed.session 1).admin ≠ .streaming ∧
      (followed.session 2).rung = some 1 ∧ (followed.session 2).fallbackRung = 1) := by decide +kernel

/-- The invariants hold in a state with sessions in service and a command waiting, from which a step is taken. -/
theorem witness_invariants :
    let s := { busy with pending := [.expiry 0], flows := [flowEntry 2] }
    s.DeviceInRange ∧ s.QueuesBounded ∧ s.FlowsSound ∧ s.RecordsSound ∧ ∃ t, step s = .next t := by
  refine ⟨⟨?_, ?_, ?_, ?_, ?_, ?_, ?_, ?_, ?_, ?_, ?_, ?_, ?_, ?_⟩, ⟨?_, ?_, ?_, ?_, ?_⟩, ⟨?_, ?_, ?_, ?_⟩, ?_, ⟨_, rfl⟩⟩
  all_goals try decide +kernel
  intro i
  have h : ∀ i, let x := busy.session i
      (x.published.isSome = true ↔ x.admin = .streaming) ∧
      (x.profile.isSome = true ↔ x.admin = .primed ∨ x.admin = .streaming) ∧ x.eff.isSome = x.profile.isSome ∧
      x.buffer.anchor ≤ 120000 := by decide +kernel
  exact ⟨(h i).1, (h i).2.1, (h i).2.2.1, (h i).2.2.2⟩

/-- A state with a tether has sound records and sound roles, and a step is taken from it. -/
theorem witness_TethersStaySound :
    let s := { tethered { session := 1 } with pending := [.upHoldExpiry 1] }
    s.RecordsSound ∧ s.TethersSound ∧ ∃ t, step s = .next t := by
  have role : ∀ i, ((tethered { session := 1 }).session i).role =
      if i = 1 then .leader [entry 2, entry 4] else if i = 2 ∨ i = 4 then .follower 1 else .independent := by
    decide +kernel
  have admin : ∀ i, i = 1 ∨ i = 2 ∨ i = 4 → ((tethered { session := 1 }).session i).admin = .streaming := by decide +kernel
  have sound : ∀ i, let x := (tethered { session := 1 }).session i
      (x.published.isSome = true ↔ x.admin = .streaming) ∧
      (x.profile.isSome = true ↔ x.admin = .primed ∨ x.admin = .streaming) ∧ x.eff.isSome = x.profile.isSome ∧
      x.buffer.anchor ≤ 120000 := by decide +kernel
  have leads : ∀ l fs, ((tethered { session := 1 }).session l).role = .leader fs → l = 1 ∧ fs = [entry 2, entry 4] := by
    intro l fs h
    rw [role l] at h
    split_ifs at h with h1 h2
    cases h
    exact ⟨h1, rfl⟩
  refine ⟨fun i => ⟨(sound i).1, (sound i).2.1, (sound i).2.2.1, (sound i).2.2.2⟩, ⟨?_, ?_, ?_, ?_, ?_⟩, _, rfl⟩
  · intro l fs h
    obtain ⟨rfl, rfl⟩ := leads l fs h
    decide +kernel
  · intro f l h
    replace h := (role f).symm.trans h
    split_ifs at h with h1 h2
    cases h
    exact ⟨_, rfl, by rcases h2 with rfl | rfl <;> decide +kernel⟩
  · intro l fs h
    obtain ⟨rfl, rfl⟩ := leads l fs h
    decide +kernel
  · intro i h
    refine .inr (admin i ?_)
    by_contra hc
    refine h ((role i).trans ?_)
    rw [if_neg (fun e => hc (.inl e)), if_neg (fun e => hc (.inr e))]
  · intro l fs h
    obtain ⟨rfl, rfl⟩ := leads l fs h
    decide +kernel

end Sys2Proof.Tests
end

/-! SUPPORT. The staging ladder under the five checks of a publish (R24), each check of Staging.Passes as a fact about the
records that validate reads, and LADDER LOAD's publish up to its checks (R2, R3, R22, R23). -/

namespace Sys2Proof.Machine

/-- A computation over a list that may fail succeeds when each element does, with the elements' values. -/
theorem mapM_eq_some_iff_map {α β : Type} (f : α → Option β) (l : List α) (m : List β) :
    l.mapM f = some m ↔ l.map f = m.map some := by
  induction l generalizing m with
  | nil => cases m <;> simp
  | cons a l ih => cases m <;> simp [List.mapM_cons, Option.bind_eq_some_iff, ih]

theorem mapM_eq_none_iff_exists {α β : Type} (f : α → Option β) (l : List α) :
    l.mapM f = none ↔ ∃ a ∈ l, f a = none := by
  induction l with
  | nil => simp
  | cons a l ih =>
    cases h : f a <;>
      simp [List.mapM_cons, Option.bind_eq_none_iff, ← Option.eq_none_iff_forall_ne_some, h, ih]

theorem Staging.records?_eq_none_iff (g : Staging) (n : Nat) : g.records? n = none ↔ ∃ k, k < n ∧ g.rung? k = none := by
  simp [Staging.records?, mapM_eq_none_iff_exists]

/-- The records that are all present are the staged ones, position by position. -/
theorem Staging.rung?_of_records {g : Staging} {n : Nat} {rs : List Rung} (h : g.records? n = some rs) :
    rs.length = n ∧ ∀ k, k < n → g.rung? k = rs[k]? := by
  have hmap : (List.range n).map g.rung? = rs.map some := (mapM_eq_some_iff_map _ _ _).mp h
  have hlen : rs.length = n := by simpa using (congrArg List.length hmap).symm
  refine ⟨hlen, fun k hk => ?_⟩
  have hat : ((List.range n).map g.rung?)[k]? = (rs.map some)[k]? := congrArg (·[k]?) hmap
  simpa [hk, hlen] using hat

theorem ascending_iff_isChain (rs : List Rung) : ascending rs = true ↔ rs.IsChain fun a b => a.bitrate < b.bitrate := by
  induction rs using ascending.induct with
  | case1 => simp [ascending]
  | case2 a => simp [ascending]
  | case3 a b rest ih => simp [ascending, ih]

section
variable {g : Staging} {n : Nat} {rs : List Rung}

theorem Staging.passes_one_iff : g.Passes 1 ↔ g.count ≠ none := Iff.rfl

theorem Staging.passes_two_iff (hn : g.count = some n) : g.Passes 2 ↔ g.records? n ≠ none := by
  simp [Staging.Passes, hn, Staging.records?_eq_none_iff]

theorem Staging.passes_three_iff (hn : g.count = some n) (hr : g.records? n = some rs) :
    g.Passes 3 ↔ ascending rs = true := by
  obtain ⟨hlen, hrung⟩ := Staging.rung?_of_records hr
  rw [ascending_iff_isChain, List.isChain_iff_getElem]
  simp only [Staging.Passes, hn, Option.some.injEq, forall_eq']
  constructor
  · intro h k hk
    exact h k _ _ (hlen ▸ hk) (by rw [hrung k (by omega), List.getElem?_eq_getElem])
      (by rw [hrung (k + 1) (by omega), List.getElem?_eq_getElem])
  · intro h k a b hk ha hb
    rw [hrung k (by omega)] at ha
    rw [hrung (k + 1) hk] at hb
    obtain ⟨_, rfl⟩ := List.getElem?_eq_some_iff.mp ha
    obtain ⟨hk', rfl⟩ := List.getElem?_eq_some_iff.mp hb
    exact h k hk'

theorem Staging.passes_four_iff (hn : g.count = some n) (hr : g.records? n = some rs) :
    g.Passes 4 ↔ rs.all Rung.skip = false := by
  obtain ⟨hlen, hrung⟩ := Staging.rung?_of_records hr
  simp only [Staging.Passes, hn, Option.some.injEq, forall_eq', List.all_eq_false, Bool.not_eq_true]
  constructor
  · rintro ⟨k, a, hk, ha, hskip⟩
    exact ⟨a, List.mem_of_getElem? (hrung k hk ▸ ha), hskip⟩
  · rintro ⟨a, ha, hskip⟩
    obtain ⟨k, hk, rfl⟩ := List.mem_iff_getElem.mp ha
    exact ⟨k, _, hlen ▸ hk, by rw [hrung k (by omega), List.getElem?_eq_getElem], hskip⟩

theorem Staging.passes_five_iff (hn : g.count = some n) (hr : g.records? n = some rs) :
    g.Passes 5 ↔ ∃ f, g.fallback = some f ∧ (rs[f]?).any (fun r => !r.skip) = true := by
  obtain ⟨hlen, hrung⟩ := Staging.rung?_of_records hr
  simp only [Staging.Passes, hn, Option.some.injEq, forall_eq', Option.any_eq_true, Bool.not_eq_true']
  constructor
  · rintro ⟨f, a, hf, hlt, ha, hskip⟩
    exact ⟨f, hf, a, hrung f hlt ▸ ha, hskip⟩
  · rintro ⟨f, hf, a, ha, hskip⟩
    have hlt : f < n := hlen ▸ (List.getElem?_eq_some_iff.mp ha).1
    exact ⟨f, a, hf, hlt, (hrung f hlt).trans ha, hskip⟩

end

/-- Only the numbers 1 to 5 are checks. -/
theorem Staging.check_of_not_passes {g : Staging} : ∀ {k : Nat}, ¬ g.Passes k → 1 ≤ k ∧ k ≤ 5
  | 0, h => (h trivial).elim
  | 1, _ | 2, _ | 3, _ | 4, _ | 5, _ => by decide
  | _ + 6, h => (h trivial).elim

/-- The validation ends at the first check that fails, with its number (R24). -/
theorem Staging.validate_eq_error {g : Staging} {k : Nat} (before : ∀ j, j < k → g.Passes j) (fails : ¬ g.Passes k) :
    g.validate = .error k := by
  obtain ⟨hlo, hhi⟩ := Staging.check_of_not_passes fails
  obtain rfl | h1 : k = 1 ∨ 1 < k := by omega
  · have hn : g.count = none := by simpa [Staging.passes_one_iff] using fails
    simp only [Staging.validate, hn]
  obtain ⟨n, hn⟩ := Option.ne_none_iff_exists'.mp (before 1 h1)
  obtain rfl | h2 : k = 2 ∨ 2 < k := by omega
  · have hr : g.records? n = none := by simpa [Staging.passes_two_iff hn] using fails
    simp only [Staging.validate, hn, hr]
  obtain ⟨rs, hr⟩ := Option.ne_none_iff_exists'.mp ((Staging.passes_two_iff hn).mp (before 2 h2))
  obtain rfl | h3 : k = 3 ∨ 3 < k := by omega
  · have unordered : ascending rs = false := by simpa [Staging.passes_three_iff hn hr] using fails
    simp [Staging.validate, hn, hr, unordered]
  have ascends : ascending rs = true := (Staging.passes_three_iff hn hr).mp (before 3 h3)
  obtain rfl | h4 : k = 4 ∨ 4 < k := by omega
  · have skipped : rs.all Rung.skip = true := by
      simpa only [Staging.passes_four_iff hn hr, Bool.not_eq_false] using fails
    simp only [Staging.validate, hn, hr, ascends, skipped, Bool.not_true, Bool.false_eq_true, if_false, if_true]
  have unskipped : rs.all Rung.skip = false := (Staging.passes_four_iff hn hr).mp (before 4 h4)
  obtain rfl : k = 5 := by omega
  simp only [Staging.validate, hn, hr, ascends, unskipped, Bool.not_true, Bool.false_eq_true, if_false]
  cases hf : g.fallback with
  | none => rfl
  | some f =>
    have unusable : ¬ (rs[f]?).any (fun r => !r.skip) = true := fun h =>
      fails ((Staging.passes_five_iff hn hr).mpr ⟨f, hf, h⟩)
    exact if_neg unusable

/-- A number of at most 15 is the session index of that number (R1). -/
theorem sessionIx?_val (i : SessionIx) : sessionIx? i.val = some i := by
  simp [sessionIx?]

/-- A PRIMED or STREAMING session takes a publish (R2, R3). -/
theorem State.checkSession_publishing {s : State} {i : SessionIx}
    (h : (s.session i).admin = .primed ∨ (s.session i).admin = .streaming) : s.checkSession .publishing i.val = .ok i := by
  rcases h with h | h <;> simp [State.checkSession, sessionIx?_val, admission, h]

/-- A publish that passes R2 and R3 writes its records and then tries the staging ladder (R22 to R24). -/
theorem State.ladderBody_of_publish {s : State} {n : LadderNote} {i : SessionIx} (hi : n.session = i.val)
    (hadmin : (s.session i).admin = .primed ∨ (s.session i).admin = .streaming) (hpub : n.publish = true)
    (hform : n.malformed = false) : s.ladderBody (some n) =
      (s.modSession i fun x => { x with staging := x.staging.load n }).tryPublish i n.clamped := by
  simp [State.ladderBody, State.sessionNote, Option.filter, hpub, hform, hi, State.checkSession_publishing hadmin]

/-- A publish whose staging ladder fails a check changes nothing and answers with the check's number (R24). -/
theorem State.tryPublish_of_error {s : State} {i : SessionIx} {k : Nat} (h : (s.session i).staging.validate = .error k)
    (clamped : Bool) : s.tryPublish i clamped = (s, { code := .ladderInvalid, detail := some k }) := by
  simp [State.tryPublish, h]

theorem exec_ladderLoad {s : State} {b : Batch} (h : s.Hears b) (note : Option LadderNote) :
    exec (.ladderLoad note) s = .next (s.takeNote 14 false b (s.ladderBody note)) := by
  simp [exec, execLadderLoad, h.taking]

/-- Settles O31: the note reaches its checks by R2 and R3, and the validation ends at the first that fails. -/
theorem publishFailsAtTheFirstCheck : Obligations.PublishFailsAtTheFirstCheck := by
  intro s b n i k hears hi hadmin hpub hform before fails
  have invalid : ((s.session i).staging.load n).validate = .error k := Staging.validate_eq_error before fails
  refine NoteDoes.of_takeNote (cl := false) (a := { code := .ladderInvalid, detail := some k }) ?_ (hears.check false)
    hears.executing rfl
  rw [exec_ladderLoad hears, State.ladderBody_of_publish hi hadmin hpub hform, State.tryPublish_of_error]
  simpa using invalid

end Sys2Proof.Machine

/-! SUPPORT. The occupied slots of a session read from the slot table (R107, R121), and the notes that end a fetch: DONE and
ABORT of an occupied slot (R121, R123) and of a tag that no slot of the session holds (R124). -/

namespace Sys2Proof.Machine

theorem mem_allSlots (k : SlotIx) : k ∈ allSlots := by
  revert k; decide

/-- A session's slots are the occupied ones of the slot table that name it (R107). -/
theorem State.mem_slotsOf {s : State} {i : SessionIx} {k : SlotIx} {x : Slot} :
    (k, x) ∈ s.slotsOf i ↔ s.slot k = some x ∧ x.session = i := by
  simp only [State.slotsOf, List.mem_filterMap, Option.bind_eq_some_iff, Option.ite_none_right_eq_some, Option.some.injEq,
    Prod.mk.injEq]
  constructor
  · rintro ⟨_, -, _, hslot, hsession, rfl, rfl⟩
    exact ⟨hslot, hsession⟩
  · rintro ⟨hslot, hsession⟩
    exact ⟨k, mem_allSlots k, x, hslot, hsession, rfl, rfl⟩

/-- The slot that a tag names is an occupied one of the session with that tag (R121). -/
theorem State.slotByTag_sound {s : State} {i : SessionIx} {tag : Byte} {k : SlotIx} {x : Slot}
    (h : s.slotByTag i tag = some (k, x)) : s.slot k = some x ∧ x.session = i ∧ x.tag = tag := by
  obtain ⟨hslot, hsession⟩ := State.mem_slotsOf.mp (List.mem_of_find?_eq_some h)
  exact ⟨hslot, hsession, by simpa using List.find?_some h⟩

theorem State.slotByTag_eq_none_iff {s : State} {i : SessionIx} {tag : Byte} :
    s.slotByTag i tag = none ↔ ∀ k x, s.slot k = some x → x.session = i → x.tag ≠ tag := by
  simp [State.slotByTag, State.mem_slotsOf]

/-- A tag that one slot of the session alone holds names that slot (R121). -/
theorem State.slotByTag_of_unique {s : State} {i : SessionIx} {tag : Byte} {k : SlotIx} {x : Slot} (hslot : s.slot k = some x)
    (hsession : x.session = i) (htag : x.tag = tag)
    (unique : ∀ m y, m ≠ k → s.slot m = some y → y.session = i → y.tag ≠ tag) : s.slotByTag i tag = some (k, x) := by
  cases hfound : s.slotByTag i tag with
  | none => exact absurd htag (State.slotByTag_eq_none_iff.mp hfound k x hslot hsession)
  | some p =>
    obtain ⟨m, y⟩ := p
    obtain ⟨hy, ysession, ytag⟩ := State.slotByTag_sound hfound
    obtain rfl : m = k := by
      by_contra hne
      exact unique m y hne hy ysession ytag
    obtain rfl : y = x := Option.some.inj (hy.symm.trans hslot)
    rfl

/-- A STREAMING session takes a note that asks for STREAMING (R2, R3). -/
theorem State.sessionNote_streaming {α : Type} {s : State} {i : SessionIx} {index : α → Nat} {n : α}
    (hadmin : (s.session i).admin = .streaming) (hi : index n = i.val) (body : SessionIx → α → State × Answer) :
    s.sessionNote .streamingOnly index (some n) body = body i n := by
  simp [State.sessionNote, State.checkSession, hi, sessionIx?_val, hadmin, admission]

theorem exec_doneFetch {s : State} {b : Batch} (h : s.Hears b) (note : Option DoneNote) :
    exec (.doneFetch note) s = .next (s.takeNote 19 false b (s.doneBody note)) := by
  simp [exec, execDoneFetch, h.taking]

theorem exec_abortFetch {s : State} {b : Batch} (h : s.Hears b) (note : Option AbortNote) :
    exec (.abortFetch note) s = .next (s.takeNote 20 false b (s.abortBody note)) := by
  simp [exec, execAbortFetch, h.taking]

section
variable {s : State} {i : SessionIx} {tag : Byte} {k : SlotIx} {x : Slot}

theorem State.doneBody_of_slot (hadmin : (s.session i).admin = .streaming) (hslot : s.slotByTag i tag = some (k, x))
    (o : FetchOutcome) : s.doneBody (some { session := i.val, tag := tag, outcome := o }) =
      (s.finishSlot k x o, Answer.done false) := by
  simp [State.doneBody, State.sessionNote_streaming hadmin, hslot]

theorem State.abortBody_of_slot (hadmin : (s.session i).admin = .streaming) (hslot : s.slotByTag i tag = some (k, x)) :
    s.abortBody (some { session := i.val, tag := tag }) = (s.abortSlot k, Answer.done false) := by
  simp [State.abortBody, State.sessionNote_streaming hadmin, hslot]

theorem State.doneBody_of_no_slot (hadmin : (s.session i).admin = .streaming) (hslot : s.slotByTag i tag = none)
    (o : FetchOutcome) : s.doneBody (some { session := i.val, tag := tag, outcome := o }) = s.lateReport i tag := by
  simp [State.doneBody, State.sessionNote_streaming hadmin, hslot]

theorem State.abortBody_of_no_slot (hadmin : (s.session i).admin = .streaming) (hslot : s.slotByTag i tag = none) :
    s.abortBody (some { session := i.val, tag := tag }) = s.lateReport i tag := by
  simp [State.abortBody, State.sessionNote_streaming hadmin, hslot]

theorem State.lateReport_of_mem (h : tag ∈ (s.session i).expiredTags) : s.lateReport i tag =
    (s.modSession i fun x => { x with expiredTags := x.expiredTags.filter fun t => decide (t ≠ tag) },
      { code := .lateTag }) := by
  simp [State.lateReport, h]

theorem State.lateReport_of_notMem (h : tag ∉ (s.session i).expiredTags) :
    s.lateReport i tag = (s, { code := .unknownTag }) := by
  simp [State.lateReport, refuseWith, h]

end

/-- A note of the player whose body works at the gate leaves what the body leaves, and is answered with its answer (R170,
R171). -/
theorem State.Hears.noteDoes {c : Instr} {s e : State} {b : Batch} {ty : Byte} {a : Answer} (h : s.Hears b)
    (taken : exec c s = .next (s.takeNote ty false b (e, a))) (work : GateWork s e) (bare : a.payload = none) :
    NoteDoes c s b e ty a.code a.detail :=
  NoteDoes.of_takeNote taken (h.check false) (work.batch.trans h.executing) bare

/-- Settles O43: a tag that one slot holds names it, and DONE ABANDONED and ABORT both free it and examine; a tag of no slot
takes both to the one late report. -/
theorem abandonedAndLateFetches : Obligations.AbandonedAndLateFetches := by
  intro s b i tag c ty hears hadmin
  refine ⟨fun k x hslot hsession htag unique command => ?_, fun untagged command => ?_⟩
  · have found : s.slotByTag i tag = some (k, x) := State.slotByTag_of_unique hslot hsession htag unique
    have work : GateWork s (s.setSlot k none).examine := (s.setSlot_gateWork k none).trans (State.examine_gateWork _)
    have taken : exec c s = .next (s.takeNote ty false b ((s.setSlot k none).examine, Answer.done false)) := by
      rcases command with ⟨rfl, rfl⟩ | ⟨rfl, rfl⟩
      · rw [exec_doneFetch hears, State.doneBody_of_slot hadmin found]; rfl
      · rw [exec_abortFetch hears, State.abortBody_of_slot hadmin found]; rfl
    exact hears.noteDoes taken work rfl
  · have missing : s.slotByTag i tag = none := State.slotByTag_eq_none_iff.mpr untagged
    have taken : exec c s = .next (s.takeNote ty false b (s.lateReport i tag)) := by
      rcases command with ⟨⟨o, rfl⟩, rfl⟩ | ⟨rfl, rfl⟩
      · rw [exec_doneFetch hears, State.doneBody_of_no_slot hadmin missing]
      · rw [exec_abortFetch hears, State.abortBody_of_no_slot hadmin missing]
    refine ⟨fun listed => ?_, fun unlisted => ?_⟩
    · rw [State.lateReport_of_mem listed] at taken
      exact hears.noteDoes taken (State.modSession_records s i _).gate rfl
    · rw [State.lateReport_of_notMem unlisted] at taken
      exact hears.noteDoes taken (GateWork.refl s) rfl

end Sys2Proof.Machine

/-! SUPPORT. What one command can do, once for all commands: apart from reports it leaves the state, or has the one effect
that Effect lists for it, under the conditions R2, R3 and its own rules ask for. Every invariant is read off this list. -/

namespace Sys2Proof.Machine

/-- The effect of a command on the state apart from reports, with the conditions under which the command has it. -/
inductive Effect (s : State) : Instr → State → Prop
  | powerOn : Effect s .powerOn s.powerOnState
  | resetInput : Effect s .resetInput { s.powerOnState with resetAsserted := true }
  | resetInputRelease : Effect s .resetInputRelease { s with resetAsserted := false }
  | deviceResetTaken (due : s.resetCanBeTaken = true) : Effect s .deviceResetTaken s.powerOnState
  | lineCarrierUp : Effect s .lineCarrierUp s.lineUp
  | lineCarrierDown : Effect s .lineCarrierDown s.lineDown
  | stationCarrierUp : Effect s (.stationCarrierEvent true) { s with path.station.carrier := true }
  | stationCarrierDown : Effect s (.stationCarrierEvent false) s.stationDown
  | downlinkFrame (f : Frame) : Effect s (.downlinkFrame f) (s.receiveLine f)
  | uplinkFrame (f : Frame) : Effect s (.uplinkFrame f) (s.receiveStation f)
  | controlFrame (f : Frame) : Effect s (.controlFrame f) (s.receiveStation f)
  | batch (bs : List Byte) (waiting : List (List Byte)) (queue : s.control.inputQueue = bs :: waiting) :
      Effect s .batch { s with control.inputQueue := waiting }
  | claim (b : Batch) (a : Addr) : Effect s (.claim (some a)) (s.setClaim b a)
  | setup (n : SetupNote) : Effect s (.setup (some n)) (s.applySetup n)
  | deviceStatus : Effect s (.deviceStatus (some ())) s.clearDeviceCauses
  | linkSnapshot : Effect s (.linkSnapshot (some ())) s.openInterval
  | linkRestart : Effect s (.linkRestart (some ())) s.reSeed
  | deviceReset (phase : ResetPhase) (pending : phase ≠ .quiet) :
      Effect s (.deviceReset (some ())) { s with control.inputQueue := [], control.resetPhase := phase }
  | openSession (i : SessionIx) (vacant : (s.session i).admin = .vacant) :
      Effect s (.openSession (some i.val)) (s.modSession i fun _ => Session.starting .unprofiled s.time)
  | sessionReset (i : SessionIx) (opened : (s.session i).admin ≠ .vacant) :
      Effect s (.sessionReset (some i.val)) (s.resetSession i .unprofiled)
  | closeSession (i : SessionIx) (opened : (s.session i).admin ≠ .vacant) :
      Effect s (.closeSession (some i.val)) ((s.removeFlows i).resetSession i .vacant)
  | sessionStatus (i : SessionIx) : Effect s (.sessionStatus (some i.val)) (s.clearCauses i)
  | prime (n : ProfileNote) (i : SessionIx) (unprofiled : (s.session i).admin = .unprofiled)
      (free : (s.session i).follows = false) : Effect s (.profile (some n)) (s.prime i n.build)
  | reprofile (n : ProfileNote) (i : SessionIx)
      (profiled : (s.session i).admin = .primed ∨ (s.session i).admin = .streaming)
      (free : (s.session i).follows = false) : Effect s (.profile (some n)) (s.reprofile i n.build)
  | stage (n : LadderNote) (i : SessionIx) (opened : (s.session i).admin ≠ .vacant) :
      Effect s (.ladderLoad (some n)) (s.modSession i fun x => { x with staging := x.staging.load n })
  | publish (n : LadderNote) (i : SessionIx) (l : Ladder)
      (profiled : (s.session i).admin = .primed ∨ (s.session i).admin = .streaming)
      (passes : ((s.session i).staging.load n).validate = .ok l) :
      Effect s (.ladderLoad (some n)) ((s.modSession i fun x => { x with staging := x.staging.load n }).publish i l)
  | tether (n : TetherNote) (l f : SessionIx) (passes : s.tetherFault l f = none) :
      Effect s (.tether (some n)) (s.tether l f n.map)
  | untether (i l : SessionIx) (profiled : (s.session i).admin = .primed ∨ (s.session i).admin = .streaming)
      (role : (s.session i).role = .follower l) : Effect s (.untether (some i.val)) (s.release l i).recompute
  | rearm (i : SessionIx) : Effect s (.rearm (some i.val)) (s.rearm i)
  | flowBind (n : FlowNote) (i : SessionIx) (opened : (s.session i).admin ≠ .vacant)
      (passes : s.bindFault i n.key = none) : Effect s (.flowBind (some n)) (s.addFlow i n.key)
  | flowUnbind (n : FlowNote) : Effect s (.flowUnbind (some n)) (s.dropFlow n.key)
  | askFetch (n : AskNote) (i : SessionIx) (streaming : (s.session i).admin = .streaming)
      (first : s.askOf i = none) : Effect s (.askFetch (some n)) (s.queueAsk i n)
  | doneFetch (n : DoneNote) (i : SessionIx) (k : SlotIx) (x : Slot)
      (streaming : (s.session i).admin = .streaming) (held : s.slotByTag i n.tag = some (k, x)) :
      Effect s (.doneFetch (some n)) (s.finishSlot k x n.outcome)
  | doneLate (n : DoneNote) (i : SessionIx) (tag : Byte) : Effect s (.doneFetch (some n)) (s.lateReport i tag).1
  | abortFetch (n : AbortNote) (k : SlotIx) : Effect s (.abortFetch (some n)) (s.abortSlot k)
  | abortLate (n : AbortNote) (i : SessionIx) (tag : Byte) :
      Effect s (.abortFetch (some n)) (s.lateReport i tag).1
  | play (n : PlayNote) (i : SessionIx) (streaming : (s.session i).admin = .streaming) :
      Effect s (.play (some n)) (s.playReport i n)
  | stationTransmit : Effect s .stationTransmit s.beginStation
  | lineTransmit : Effect s .lineTransmit s.beginLine
  | linkSample : Effect s .linkSample s.sampleLink
  | emptyPoint (i : SessionIx) : Effect s (.emptyPoint i) (s.modSession i fun x => x.emptied s.time)
  | freshness (i : SessionIx) : Effect s (.freshnessTimerExpiry i) (s.blindSession i)
  | upHold (i : SessionIx) : Effect s (.upHoldExpiry i) (s.modSession i fun x => { x with upHold := none })
  | deadline (k : SlotIx) (x : Slot) : Effect s (.deadline k) (s.missDeadline k x)
  | expiry (k : SlotIx) (x : Slot) : Effect s (.expiry k) (s.expireSlot k x)
  | spacingHold : Effect s .spacingHoldExpiry (State.examine { s with gate.spacingHold := none })
  | drainTimer (i : SessionIx) :
      Effect s (.drainTimerExpiry i) (s.modSession i fun x => { x with drainTimer := none }).examine
  | drawWindow (order : List SessionIx) : Effect s (.drawWindow order) (s.endWindow order)
  | retry (i : SessionIx) : Effect s (.retryExpiry i) (s.retry i)
  | flowIdle (key : FlowKey) : Effect s (.flowIdle key) (s.removeIdle fun e => decide (e.key = key))
  | millisecond : Effect s .busyMillisecond { s with msDue := false }
  | busyMillisecond (room : s.meter.busyAcc < samplePeriod) :
      Effect s .busyMillisecond (State.accrueBusy { s with msDue := false })

/-- From s to t nothing differs apart from reports, and the report queue stays within its eight frames (R160). -/
structure Reported (s t : State) : Prop where
  apart : t.apartFromReports = s.apartFromReports
  room : s.path.reportQueue.length ≤ 8 → t.path.reportQueue.length ≤ 8

/-! Answering a note and announcing a cause report only. -/

theorem Reported.refl (s : State) : Reported s s := ⟨rfl, id⟩

theorem Reported.trans {s t u : State} (h : Reported s t) (k : Reported t u) : Reported s u :=
  ⟨k.apart.trans h.apart, fun hs => k.room (h.room hs)⟩

theorem Reported.ite {s t u : State} {c : Prop} [Decidable c] (h : Reported s t) (k : Reported s u) :
    Reported s (if c then t else u) := by
  split <;> assumption

theorem State.beginReport_room (s : State) (f : ReportFrame) (h : s.path.reportQueue.length ≤ 8) :
    (s.beginReport f).1.path.reportQueue.length ≤ 8 := by
  unfold State.beginReport reportQueueFrames; split
  · simp only [List.length_append, List.length_singleton]; omega
  · exact h

theorem State.originate_room (s : State) (n : OutNote) (h : s.path.reportQueue.length ≤ 8) :
    (s.originate n).1.path.reportQueue.length ≤ 8 := by
  unfold State.originate
  split
  · exact h
  · split
    · next hl =>
      have nonempty : s.path.reportQueue ≠ [] := fun k => by rw [k] at hl; cases hl
      split
      · have := List.length_pos_iff.mpr nonempty
        simp only [List.length_append, List.length_dropLast, List.length_singleton]; omega
      · exact s.beginReport_room _ h
    · exact s.beginReport_room _ h

theorem appendReply_length (n : OutNote) (fs : List ReportFrame) : (appendReply n fs).length = fs.length := by
  induction fs with
  | nil => rfl
  | cons f fs ih => unfold appendReply; split <;> simp [ih]

theorem State.compareAttention_reported (s : State) : Reported s s.compareAttention := by
  refine ⟨s.compareAttention_apart, fun h => ?_⟩
  unfold State.compareAttention
  split
  · exact h
  · split
    · exact h
    · extract_lets sent
      split <;> exact s.originate_room _ h

theorem settle_reported (s t : State) : Reported t (settle s t) := .ite (.refl t) t.compareAttention_reported

theorem State.addReply_reported (s : State) (r : Reply) : Reported s (s.addReply r) := by
  refine ⟨s.addReply_apart r, fun h => ?_⟩
  unfold State.addReply
  split
  · exact h
  · split
    · exact (appendReply_length _ _).trans_le h
    · exact h
    · extract_lets begun
      exact s.beginReport_room _ h

theorem State.endBatch_reported (s : State) : Reported s s.endBatch :=
  ⟨s.endBatch_apart, fun h => (List.length_map _).trans_le h⟩

theorem State.endIfDone_reported (s : State) : Reported s s.endIfDone := by
  unfold State.endIfDone; split
  · exact .refl s
  · exact .ite s.endBatch_reported (.refl s)

theorem State.answerUnreadable_reported (l : List RawNote) (s : State) : Reported s (State.answerUnreadable l s) := by
  induction l generalizing s with
  | nil => exact .refl s
  | cons r l ih =>
    unfold State.answerUnreadable
    split
    · exact .refl s
    · split
      · exact .refl s
      · extract_lets told
        have ht : Reported s told := (s.addReply_reported _).trans ⟨rfl, id⟩
        refine Reported.trans ?_ (ih _)
        exact ht.trans ⟨rfl, id⟩

theorem State.answer_reported (s : State) (ty : Byte) (a : Answer) : Reported s (s.answer ty a) := by
  unfold State.answer; split
  · exact .refl s
  · extract_lets told
    have ht : Reported s told := (s.addReply_reported _).trans ⟨rfl, id⟩
    exact (ht.trans (State.answerUnreadable_reported _ _)).trans (State.endIfDone_reported _)

/-- From s to t a command leaves the state, or has its effect, but for what it reports. -/
def ActsBy (c : Instr) (s t : State) : Prop := Reported s t ∨ ∃ e, Effect s c e ∧ Reported e t

section
variable {c : Instr} {s t : State}

theorem ActsBy.idle (c : Instr) (s : State) : ActsBy c s s := .inl (.refl s)

theorem ActsBy.of_reported (h : Reported s t) : ActsBy c s t := .inl h

theorem ActsBy.of_effect (h : Effect s c t) : ActsBy c s t := .inr ⟨t, h, .refl t⟩

theorem ActsBy.of_settled (h : Effect s c t) : ActsBy c s (settle s t) := .inr ⟨t, h, settle_reported s t⟩

/-- A command that acts only while the reset input is released. -/
theorem ActsBy.unlessReset {f : State → State} (h : ActsBy c s (f s)) : ActsBy c s (s.unlessReset f) := by
  unfold State.unlessReset; split
  · exact .idle c s
  · exact h

/-- A note is refused, or its body's state is what it leaves. -/
theorem ActsBy.takeNote {ty : Byte} {cl : Bool} {b : Batch} {body : State × Answer}
    (h : body.1 = s ∨ Effect s c body.1) : ActsBy c s (s.takeNote ty cl b body) := by
  unfold State.takeNote; split
  · exact .of_reported (s.answer_reported _ _)
  · have hb : Reported body.1 (settle s (body.1.answer ty body.2)) := (body.1.answer_reported _ _).trans (settle_reported _ _)
    rcases h with h | h
    · exact .of_reported (h ▸ hb)
    · exact .inr ⟨_, h, hb⟩

theorem State.countStatus_reported (s : State) : Reported s s.countStatus := ⟨rfl, id⟩

end

/-- A status note's clearing follows its reply: where it reads and writes nothing of the reports, it is an effect on the state
but for the reply (R173, R174, R176). -/
theorem ActsBy.takeStatus {c : Instr} {s : State} {ty : Byte} {b : Batch} {judged : Except ReplyCode (List Byte)}
    {after : State → State} (clears : ∀ {u v : State}, Reported u v → Reported (after u) (after v))
    (h : ∀ p, judged = .ok p → after s = s ∨ Effect s c (after s)) : ActsBy c s (s.takeStatus ty b judged after) := by
  have answered : ∀ a, Reported s (s.countStatus.answer ty a) := fun a =>
    s.countStatus_reported.trans (s.countStatus.answer_reported ty a)
  unfold State.takeStatus
  extract_lets counted
  split
  · exact .of_reported (answered _)
  · split
    · exact .of_reported (answered _)
    · split
      · exact .of_reported (answered _)
      · next p =>
        have ha := (clears (answered { code := .accepted, payload := some p })).trans (settle_reported s _)
        rcases h p rfl with h | h
        · rw [h] at ha; exact .of_reported ha
        · exact .inr ⟨_, h, ha⟩

/-- States that agree apart from reports still do after the same change of one record. -/
theorem State.modSession_apart {u v : State} (h : u.apartFromReports = v.apartFromReports) (i : SessionIx)
    (f : Session → Session) : (u.modSession i f).apartFromReports = (v.modSession i f).apartFromReports := by
  have k := congrArg (fun w : State => w.modSession i f) h
  exact k

theorem Reported.modSession {u v : State} (h : Reported u v) (i : SessionIx) (f : Session → Session) :
    Reported (u.modSession i f) (v.modSession i f) :=
  ⟨State.modSession_apart h.apart i f, h.room⟩

theorem Reported.clearDeviceCauses {u v : State} (h : Reported u v) : Reported u.clearDeviceCauses v.clearDeviceCauses :=
  ⟨(congrArg State.clearDeviceCauses h.apart :), h.room⟩

theorem Reported.openInterval {u v : State} (h : Reported u v) : Reported u.openInterval v.openInterval :=
  ⟨(congrArg State.openInterval h.apart :), h.room⟩

theorem Reported.clearNamed {u v : State} (h : Reported u v) (session : Option Nat) :
    Reported (u.clearNamed session) (v.clearNamed session) := by
  unfold State.clearNamed; split
  · exact h
  · exact h.modSession _ _

/-- A session index that a note gives is a session's number. -/
theorem eq_val_of_sessionIx? {n : Nat} {i : SessionIx} (h : sessionIx? n = some i) : n = i.val := by
  unfold sessionIx? at h; split at h
  · cases h; rfl
  · cases h

/-- A session note is refused, or its body takes it for the session it names, in an admin state that R3 accepts. -/
theorem State.sessionNote_cases {α : Type} (s : State) (group : NoteGroup) (index : α → Nat) (note : Option α)
    (body : SessionIx → α → State × Answer) :
    (s.sessionNote group index note body).1 = s ∨ ∃ n i, note = some n ∧ index n = i.val ∧
      admission group (s.session i).admin = none ∧ s.sessionNote group index note body = body i n := by
  cases note with
  | none => exact .inl rfl
  | some n =>
    simp only [State.sessionNote, State.checkSession]
    cases hi : sessionIx? (index n) with
    | none => exact .inl rfl
    | some i =>
      cases ha : admission group (s.session i).admin with
      | some code => exact .inl (by simp [ha, refuseWith])
      | none => exact .inr ⟨n, i, rfl, eq_val_of_sessionIx? hi, ha, by simp [ha]⟩

theorem admission_opening {a : Admin} : admission .opening a = none ↔ a = .vacant := by cases a <;> simp [admission]

theorem admission_anySession {a : Admin} : admission .anySession a = none ↔ a ≠ .vacant := by cases a <;> simp [admission]

theorem admission_publishing {a : Admin} : admission .publishing a = none ↔ a = .primed ∨ a = .streaming := by
  cases a <;> simp [admission]

theorem admission_profiled {a : Admin} : admission .profiled a = none ↔ a = .primed ∨ a = .streaming := by
  cases a <;> simp [admission]

theorem admission_streamingOnly {a : Admin} : admission .streamingOnly a = none ↔ a = .streaming := by
  cases a <;> simp [admission]

section
variable (s : State)

theorem openBody_acts (session : Option Nat) :
    (s.openBody session).1 = s ∨ Effect s (.openSession session) (s.openBody session).1 := by
  rcases s.sessionNote_cases .opening id session fun i _ => (s.modSession i fun _ => Session.starting .unprofiled s.time,
    Answer.done false) with h | ⟨_, i, rfl, rfl, ha, h⟩
  · exact .inl h
  · rw [State.openBody, h]; exact .inr (.openSession i (admission_opening.mp ha))

theorem resetBody_acts (session : Option Nat) :
    (s.resetBody session).1 = s ∨ Effect s (.sessionReset session) (s.resetBody session).1 := by
  rcases s.sessionNote_cases .anySession id session fun i _ => (s.resetSession i .unprofiled, Answer.done false) with
    h | ⟨_, i, rfl, rfl, ha, h⟩
  · exact .inl h
  · rw [State.resetBody, h]; exact .inr (.sessionReset i (admission_anySession.mp ha))

theorem closeBody_acts (session : Option Nat) :
    (s.closeBody session).1 = s ∨ Effect s (.closeSession session) (s.closeBody session).1 := by
  rcases s.sessionNote_cases .anySession id session fun i _ => ((s.removeFlows i).resetSession i .vacant, Answer.done false)
    with h | ⟨_, i, rfl, rfl, ha, h⟩
  · exact .inl h
  · rw [State.closeBody, h]; exact .inr (.closeSession i (admission_anySession.mp ha))

theorem profileBody_acts (note : Option ProfileNote) :
    (s.profileBody note).1 = s ∨ Effect s (.profile note) (s.profileBody note).1 := by
  unfold State.profileBody
  rcases s.sessionNote_cases .anySession ProfileNote.session note _ with h | ⟨n, i, rfl, -, ha, h⟩
  · exact .inl h
  · rw [h]
    have opened := admission_anySession.mp ha
    split
    · exact .inl rfl
    next free =>
    have free : (s.session i).follows = false := by simpa using free
    split
    · next unprofiled => exact .inr (.prime n i unprofiled free)
    · next profiled =>
      refine .inr (.reprofile n i ?_ free)
      cases hadmin : (s.session i).admin <;> simp_all

theorem ladderBody_acts (note : Option LadderNote) :
    (s.ladderBody note).1 = s ∨ Effect s (.ladderLoad note) (s.ladderBody note).1 := by
  unfold State.ladderBody
  rcases s.sessionNote_cases (if note.any LadderNote.publish then .publishing else .anySession) LadderNote.session
    (note.filter fun n => !n.malformed) _ with h | ⟨n, i, hn, -, ha, h⟩
  · exact .inl h
  obtain ⟨rfl, -⟩ := Option.filter_eq_some_iff.mp hn
  rw [h]
  by_cases hp : n.publish = true
  · have profiled := admission_publishing.mp (by simpa [hp] using ha)
    have opened : (s.session i).admin ≠ .vacant := by rcases profiled with h | h <;> simp [h]
    simp only [hp, if_true, State.tryPublish]
    split
    · exact .inr (.stage n i opened)
    · next l hl => exact .inr (.publish n i l profiled (by simpa using hl))
  · have opened := admission_anySession.mp (by simpa [hp] using ha)
    simp only [hp]
    exact .inr (.stage n i opened)

theorem tetherBody_acts (note : Option TetherNote) :
    (s.tetherBody note).1 = s ∨ Effect s (.tether note) (s.tetherBody note).1 := by
  unfold State.tetherBody
  split
  · exact .inl rfl
  next n hn =>
  obtain ⟨rfl, -⟩ := Option.filter_eq_some_iff.mp hn
  cases sessionIx? n.leader with
  | none => exact .inl rfl
  | some l =>
    cases sessionIx? n.follower with
    | none => exact .inl rfl
    | some f =>
      cases passes : s.tetherFault l f with
      | some check => simp [passes]
      | none => simp only [passes]; exact .inr (.tether n l f passes)

theorem untetherBody_acts (session : Option Nat) :
    (s.untetherBody session).1 = s ∨ Effect s (.untether session) (s.untetherBody session).1 := by
  unfold State.untetherBody
  rcases s.sessionNote_cases .profiled id session _ with h | ⟨_, i, rfl, rfl, ha, h⟩
  · exact .inl h
  rw [h]
  split
  · next l role => exact .inr (.untether i l (admission_profiled.mp ha) role)
  · exact .inl rfl
  · exact .inl rfl

theorem rearmBody_acts (session : Option Nat) :
    (s.rearmBody session).1 = s ∨ Effect s (.rearm session) (s.rearmBody session).1 := by
  unfold State.rearmBody
  rcases s.sessionNote_cases .profiled id session _ with h | ⟨_, i, rfl, rfl, -, h⟩
  · exact .inl h
  rw [h]
  split
  · exact .inl rfl
  · exact .inr (.rearm i)

theorem flowBindBody_acts (note : Option FlowNote) :
    (s.flowBindBody note).1 = s ∨ Effect s (.flowBind note) (s.flowBindBody note).1 := by
  unfold State.flowBindBody
  rcases s.sessionNote_cases .anySession FlowNote.session note _ with h | ⟨n, i, rfl, -, ha, h⟩
  · exact .inl h
  rw [h]
  split
  · exact .inl rfl
  · next passes => exact .inr (.flowBind n i (admission_anySession.mp ha) passes)

theorem flowUnbindBody_acts (note : Option FlowNote) :
    (s.flowUnbindBody note).1 = s ∨ Effect s (.flowUnbind note) (s.flowUnbindBody note).1 := by
  unfold State.flowUnbindBody
  rcases s.sessionNote_cases .anySession FlowNote.session note _ with h | ⟨n, i, rfl, -, -, h⟩
  · exact .inl h
  rw [h]
  split
  · exact .inr (.flowUnbind n)
  · exact .inl rfl

theorem askBody_acts (note : Option AskNote) : (s.askBody note).1 = s ∨ Effect s (.askFetch note) (s.askBody note).1 := by
  unfold State.askBody
  rcases s.sessionNote_cases .streamingOnly AskNote.session note _ with h | ⟨n, i, rfl, -, ha, h⟩
  · exact .inl h
  rw [h]
  split
  · exact .inl rfl
  · next first => exact .inr (.askFetch n i (admission_streamingOnly.mp ha) (by simpa using first))

theorem doneBody_acts (note : Option DoneNote) : (s.doneBody note).1 = s ∨ Effect s (.doneFetch note) (s.doneBody note).1 := by
  unfold State.doneBody
  rcases s.sessionNote_cases .streamingOnly DoneNote.session note _ with h | ⟨n, i, rfl, -, ha, h⟩
  · exact .inl h
  rw [h]
  split
  · next k x held => exact .inr (.doneFetch n i k x (admission_streamingOnly.mp ha) held)
  · exact .inr (.doneLate n i n.tag)

theorem abortBody_acts (note : Option AbortNote) :
    (s.abortBody note).1 = s ∨ Effect s (.abortFetch note) (s.abortBody note).1 := by
  unfold State.abortBody
  rcases s.sessionNote_cases .streamingOnly AbortNote.session note _ with h | ⟨n, i, rfl, -, ha, h⟩
  · exact .inl h
  rw [h]
  split
  · next k _ _ => exact .inr (.abortFetch n k)
  · exact .inr (.abortLate n i n.tag)

theorem playBody_acts (note : Option PlayNote) : (s.playBody note).1 = s ∨ Effect s (.play note) (s.playBody note).1 := by
  unfold State.playBody
  rcases s.sessionNote_cases .streamingOnly PlayNote.session note _ with h | ⟨n, i, rfl, -, ha, h⟩
  · exact .inl h
  rw [h]
  exact .inr (.play n i (admission_streamingOnly.mp ha))

/-- The header's answer and the notes that stand ready are reports: a batch else only takes its frame. -/
theorem State.beginBatch_reported (h : ControlHeader) : Reported s (s.beginBatch h) := by
  unfold State.beginBatch
  extract_lets _ opened
  have ho : ∀ rest, Reported s (opened rest) := fun _ => ⟨rfl, id⟩
  split
  · exact ((ho _).trans (State.answerUnreadable_reported _ _)).trans (State.endIfDone_reported _)
  · exact ((ho _).trans (State.addReply_reported _ _)).trans (State.endBatch_reported _)

theorem nextBatch_acts : ActsBy .batch s s.nextBatch := by
  unfold State.nextBatch
  split
  · next bs rest _ queue =>
    extract_lets waiting taken
    refine .inr ⟨taken, .batch bs rest queue, ?_⟩
    split
    · exact .refl _
    · exact taken.beginBatch_reported _
  · exact .idle _ s
  · exact .idle _ s

theorem takeClaim_acts (b : Batch) (part : Option Addr) : ActsBy (.claim part) s (s.takeClaim b part) := by
  unfold State.takeClaim
  split
  · exact .of_reported (s.answer_reported _ _)
  split
  · exact .of_reported (s.answer_reported _ _)
  · next a ha =>
    obtain ⟨rfl, -⟩ := Option.filter_eq_some_iff.mp ha
    exact .inr ⟨_, .claim b a, (State.answer_reported _ _ _).trans (State.compareAttention_reported _)⟩

theorem markResetReply_length (fs : List ReportFrame) : (markResetReply fs).length = fs.length :=
  List.length_map _

/-- An accepted DEVICE RESET discards the waiting control frames and moves the reset's phase (R175). -/
theorem State.startReset_reported (b : Batch) : ∃ phase, phase ≠ .quiet ∧
    Reported { s with control.inputQueue := [], control.resetPhase := phase } (s.startReset b) := by
  unfold State.startReset
  extract_lets _ told dropped _ marked
  refine ⟨if dropped || !told.path.station.carrier then .due else .awaitingReply, by split <;> simp, ?_, fun h => ?_⟩
  · have ht : told.apartFromReports = s.apartFromReports := s.addReply_apart _
    have k := congrArg (fun u : State => { u with
      control.inputQueue := []
      control.resetPhase := if dropped || !told.path.station.carrier then .due else .awaitingReply }) ht
    exact k
  · have ht : told.path.reportQueue.length ≤ 8 := (s.addReply_reported _).room h
    have hm : marked.path.reportQueue.length ≤ 8 := (markResetReply_length _).trans_le ht
    exact marked.endBatch_reported.room hm

theorem takeDeviceReset_acts (b : Batch) (note : Option Unit) : ActsBy (.deviceReset note) s (s.takeDeviceReset b note) := by
  unfold State.takeDeviceReset
  split
  · exact .of_reported (s.answer_reported _ _)
  split
  · exact .of_reported (s.answer_reported _ _)
  · obtain ⟨phase, pending, h⟩ := s.startReset_reported b
    exact .inr ⟨_, .deviceReset phase pending, h⟩

/-- A frame that the control note unit takes is taken by the station port's reception as well (log entry 17). -/
theorem State.controlFrame_eq_receiveStation (f : Frame) :
    (if s.receivesControl f then s.takeControl f.bytes else s.receiveStation f) = s.receiveStation f := by
  split
  · next h =>
    simp only [State.receivesControl, Bool.and_eq_true] at h
    obtain ⟨⟨carrier, passes⟩, control⟩ := h
    simp [State.receiveStation, carrier, passes, control]
  · rfl

end

/-- What a note command does while a batch is in execution, for each of them. -/
theorem takingBatch_acts {c : Instr} {s t : State} {f : Batch → State} (h : ∀ b, ActsBy c s (f b))
    (ht : (match s.takingBatch with | none => Host.Outcome.next s | some b => .next (f b) :
      Host.Outcome State Fault Refusal) = .next t) : ActsBy c s t := by
  split at ht
  · cases ht; exact .idle c s
  · cases ht; exact h _

/-- Every command leaves the state or has its effect, apart from reports. -/
theorem exec_acts {c : Instr} {s t : State} (h : exec c s = .next t) : ActsBy c s t := by
  cases c with
  | powerOn => cases h; exact .of_effect (.powerOn)
  | resetInput => cases h; exact .of_effect (.resetInput)
  | resetInputRelease => cases h; exact .of_effect (.resetInputRelease)
  | lineCarrierUp =>
    cases h; apply ActsBy.unlessReset; split
    · exact .idle _ s
    · exact .of_settled (.lineCarrierUp)
  | lineCarrierDown =>
    cases h; apply ActsBy.unlessReset; split
    · exact .of_settled (.lineCarrierDown)
    · exact .idle _ s
  | stationCarrierEvent up =>
    cases h; apply ActsBy.unlessReset; split
    · exact .idle _ s
    · cases up
      · exact .of_effect (.stationCarrierDown)
      · exact .of_effect (.stationCarrierUp)
  | downlinkFrame f => cases h; exact .unlessReset (.of_effect (.downlinkFrame f))
  | uplinkFrame f => cases h; exact .unlessReset (.of_effect (.uplinkFrame f))
  | controlFrame f =>
    cases h; apply ActsBy.unlessReset
    rw [s.controlFrame_eq_receiveStation]
    exact .of_effect (.controlFrame f)
  | batch => cases h; exact .unlessReset (nextBatch_acts s)
  | claim part => exact takingBatch_acts (fun b => takeClaim_acts s b part) h
  | setup note =>
    refine takingBatch_acts (fun b => .takeNote ?_) h
    cases note with
    | none => exact .inl rfl
    | some n => exact .inr (.setup n)
  | deviceStatus note =>
    refine takingBatch_acts (fun b => .takeStatus (fun k => k.clearDeviceCauses) fun p hp => ?_) h
    cases note with
    | none => cases hp
    | some u => exact .inr (.deviceStatus)
  | linkSnapshot note =>
    refine takingBatch_acts (fun b => .takeStatus (fun k => k.openInterval) fun p hp => ?_) h
    cases note with
    | none => cases hp
    | some u => exact .inr (.linkSnapshot)
  | linkRestart note =>
    refine takingBatch_acts (fun b => .takeNote ?_) h
    cases note with
    | none => exact .inl rfl
    | some u => exact .inr (.linkRestart)
  | deviceReset note => exact takingBatch_acts (fun b => takeDeviceReset_acts s b note) h
  | deviceResetTaken =>
    cases h; apply ActsBy.unlessReset; split
    · next due => exact .of_effect (.deviceResetTaken due)
    · exact .idle _ s
  | openSession session => exact takingBatch_acts (fun b => .takeNote (openBody_acts s session)) h
  | sessionReset session => exact takingBatch_acts (fun b => .takeNote (resetBody_acts s session)) h
  | closeSession session => exact takingBatch_acts (fun b => .takeNote (closeBody_acts s session)) h
  | sessionStatus session =>
    refine takingBatch_acts (fun b => .takeStatus (fun k => k.clearNamed session) fun p hp => ?_) h
    unfold State.clearNamed; split
    · exact .inl rfl
    · next i hi =>
      obtain ⟨n, rfl, hn⟩ := Option.bind_eq_some_iff.mp hi
      rw [eq_val_of_sessionIx? hn]
      exact .inr (.sessionStatus i)
  | profile note => exact takingBatch_acts (fun b => .takeNote (profileBody_acts s note)) h
  | ladderLoad note => exact takingBatch_acts (fun b => .takeNote (ladderBody_acts s note)) h
  | tether note => exact takingBatch_acts (fun b => .takeNote (tetherBody_acts s note)) h
  | untether session => exact takingBatch_acts (fun b => .takeNote (untetherBody_acts s session)) h
  | rearm session => exact takingBatch_acts (fun b => .takeNote (rearmBody_acts s session)) h
  | flowBind note => exact takingBatch_acts (fun b => .takeNote (flowBindBody_acts s note)) h
  | flowUnbind note => exact takingBatch_acts (fun b => .takeNote (flowUnbindBody_acts s note)) h
  | askFetch note => exact takingBatch_acts (fun b => .takeNote (askBody_acts s note)) h
  | doneFetch note => exact takingBatch_acts (fun b => .takeNote (doneBody_acts s note)) h
  | abortFetch note => exact takingBatch_acts (fun b => .takeNote (abortBody_acts s note)) h
  | play note => exact takingBatch_acts (fun b => .takeNote (playBody_acts s note)) h
  | unknownNote ty => exact takingBatch_acts (fun _ => .of_reported (s.answer_reported _ _)) h
  | stationTransmit => cases h; exact .unlessReset (.of_effect (.stationTransmit))
  | lineTransmit => cases h; exact .unlessReset (.of_effect (.lineTransmit))
  | linkSample =>
    cases h; apply ActsBy.unlessReset; split
    · exact .of_effect (.linkSample)
    · exact .idle _ s
  | emptyPoint i =>
    cases h; apply ActsBy.unlessReset; split
    · exact .of_effect (.emptyPoint i)
    · exact .idle _ s
  | freshnessTimerExpiry i =>
    cases h; apply ActsBy.unlessReset; split
    · exact .of_settled (.freshness i)
    · exact .idle _ s
  | upHoldExpiry i =>
    cases h; apply ActsBy.unlessReset; split
    · exact .of_effect (.upHold i)
    · exact .idle _ s
  | deadline k =>
    cases h; apply ActsBy.unlessReset; split
    · exact .idle _ s
    · next x _ =>
      split
      · exact .of_settled (.deadline k x)
      · exact .idle _ s
  | expiry k =>
    cases h; apply ActsBy.unlessReset; split
    · exact .idle _ s
    · next x _ =>
      split
      · exact .of_settled (.expiry k x)
      · exact .idle _ s
  | spacingHoldExpiry =>
    cases h; apply ActsBy.unlessReset; split
    · exact .of_effect (.spacingHold)
    · exact .idle _ s
  | drainTimerExpiry i =>
    cases h; apply ActsBy.unlessReset; split
    · exact .of_effect (.drainTimer i)
    · exact .idle _ s
  | drawWindow order =>
    cases h; apply ActsBy.unlessReset; split
    · exact .of_effect (.drawWindow order)
    · exact .idle _ s
  | retryExpiry i =>
    cases h; apply ActsBy.unlessReset; split
    · exact .of_settled (.retry i)
    · exact .idle _ s
  | flowIdle key => cases h; exact .unlessReset (.of_settled (.flowIdle key))
  | busyMillisecond =>
    cases h; apply ActsBy.unlessReset
    extract_lets taken
    split
    · next h => exact .of_effect (.busyMillisecond (by simp_all))
    · exact .of_effect (.millisecond)

/-- A property that reports do not touch and no effect breaks holds after every command. -/
theorem exec_keeps {P : State → Prop} (reports : ∀ {s t : State}, Reported s t → P s → P t)
    (effects : ∀ {c s e}, Effect s c e → P s → P e) {c : Instr} {s t : State} (hs : P s) (h : exec c s = .next t) : P t := by
  rcases exec_acts h with k | ⟨e, he, k⟩
  · exact reports k hs
  · exact reports k (effects he hs)

theorem takingBatch_next (s : State) (f : Batch → State) : ∃ t, (match s.takingBatch with
    | none => Host.Outcome.next s
    | some b => .next (f b) : Host.Outcome State Fault Refusal) = .next t := by
  split <;> exact ⟨_, rfl⟩

/-- Every command answers a next state: no command stops the part (log entry 31). -/
theorem exec_next (c : Instr) (s : State) : ∃ t, exec c s = .next t := by
  cases c
  case claim | setup | deviceStatus | linkSnapshot | linkRestart | deviceReset | openSession | sessionReset | closeSession |
      sessionStatus | profile | ladderLoad | tether | untether | rearm | flowBind | flowUnbind | askFetch | doneFetch |
      abortFetch | play | unknownNote => exact takingBatch_next s _
  all_goals exact ⟨_, rfl⟩

/-- Only the clock, the transmissions in progress, the waiting commands and the model's own marks differ: what a step does
beside taking a command. -/
def ClockOnly (s t : State) : Prop :=
  t = { s with time := t.time, msDue := t.msDue, windowDue := t.windowDue, choices := t.choices, pending := t.pending
               path.line.sending := t.path.line.sending, path.station.sending := t.path.station.sending }

/-- A step takes a command, from the state but for its queue and its place in the free choices, or moves the clock alone. -/
theorem step_cases {s t : State} (h : step s = .next t) :
    (∃ c u, ClockOnly s u ∧ exec c u = .next t) ∨ ClockOnly s t := by
  have take : ∀ (u : State) (m : Move), ClockOnly s u → u.take m = .next t →
      (∃ c u, ClockOnly s u ∧ exec c u = .next t) ∨ ClockOnly s t := by
    intro u m hu hm
    cases m with
    | command c => exact .inl ⟨c, u, hu, hm⟩
    | stationSent => cases hm; refine .inr ?_; unfold ClockOnly at hu ⊢; rw [hu]
    | lineSent => cases hm; refine .inr ?_; unfold ClockOnly at hu ⊢; rw [hu]
    | millisecond => cases hm; refine .inr ?_; unfold ClockOnly State.tick at *; rw [hu]
  unfold step at h
  split at h
  · unfold State.idle at h
    split at h
    · cases h; exact .inr rfl
    · split at h
      · cases h; exact .inr rfl
      · exact take s _ rfl h
      · exact take { s with choices := s.choices + 1 } _ rfl h
  · next c rest _ => exact .inl ⟨c, { s with pending := rest }, rfl, h⟩

/-- A property that neither the clock nor any command breaks holds after every step. -/
theorem step_keeps {P : State → Prop} (clock : ∀ {s t : State}, ClockOnly s t → P s → P t)
    (commands : ∀ {c s t}, P s → exec c s = .next t → P t) {s t : State} (hs : P s) (h : step s = .next t) : P t := by
  rcases step_cases h with ⟨c, u, hu, hx⟩ | k
  · exact commands (clock hu hs) hx
  · exact clock k hs

end Sys2Proof.Machine

/-! SUPPORT. What the blocks behind a note leave of every session's record: judgements, examinations, recomputations, draw
windows and timers move rungs, statistics, shares, draw states and causes, and never a session's standing, that is, its admin
state, profile, effective values, ladders, buffer model and role. -/

namespace Sys2Proof.Machine

/-- The record with every field cleared that the blocks move by themselves: what is left is the session's standing. -/
def Session.standing (x : Session) : Session :=
  { x with estimates := none, shares := none, rung := none, upHold := none, nextTag := 0, expiredTags := [], missRun := 0
           drainTimer := none, draw := {}, causes := 0, stats := {} }

/-- Every session keeps its standing. -/
def Stands (s t : State) : Prop := ∀ i, (t.session i).standing = (s.session i).standing

section
variable {x y : Session}

theorem Session.admin_of_standing (h : y.standing = x.standing) : y.admin = x.admin := (congrArg Session.admin h :)
theorem Session.profile_of_standing (h : y.standing = x.standing) : y.profile = x.profile := (congrArg Session.profile h :)
theorem Session.eff_of_standing (h : y.standing = x.standing) : y.eff = x.eff := (congrArg Session.eff h :)
theorem Session.published_of_standing (h : y.standing = x.standing) : y.published = x.published := (congrArg Session.published h :)
theorem Session.generation_of_standing (h : y.standing = x.standing) : y.generation = x.generation := (congrArg Session.generation h :)
theorem Session.buffer_of_standing (h : y.standing = x.standing) : y.buffer = x.buffer := (congrArg Session.buffer h :)
theorem Session.role_of_standing (h : y.standing = x.standing) : y.role = x.role := (congrArg Session.role h :)

end

/-! Changes of one record that keep its standing. -/

section
variable (x : Session) (now : Time)

theorem Session.standing_moveTo (k : Nat) : (x.moveTo k).standing = x.standing := by
  unfold Session.moveTo; repeat' split
  all_goals rfl

theorem Session.standing_restartUpHold : (x.restartUpHold now).standing = x.standing := by
  unfold Session.restartUpHold; split <;> rfl

theorem Session.standing_overdrawn (k : Nat) : (x.overdrawn now k).standing = x.standing := by
  unfold Session.overdrawn; simp only []; repeat' split
  all_goals rfl

theorem Session.standing_quietCompletion : x.quietCompletion.standing = x.standing := by
  unfold Session.quietCompletion; repeat' split
  all_goals rfl

theorem Session.standing_liveCompletion (b : Bool) : (x.liveCompletion b).standing = x.standing := by
  unfold Session.liveCompletion; split <;> rfl

theorem Session.standing_retried : (x.retried now).standing = x.standing := by
  unfold Session.retried; simp only []; split <;> rfl

theorem Session.standing_rearmed : (x.rearmed now).standing = x.standing := by
  unfold Session.rearmed; simp only []; repeat' split
  all_goals rfl

theorem Session.standing_startDraw : (x.startDraw now).standing = x.standing := by
  unfold Session.startDraw; split <;> rfl

theorem Session.standing_meetRetryLimit (n : Nat) : (x.meetRetryLimit n).standing = x.standing := by
  unfold Session.meetRetryLimit; repeat' split
  all_goals rfl

theorem Session.standing_reprofileDraw (k : DrawKind) : (x.reprofileDraw now k).standing = x.standing := by
  unfold Session.reprofileDraw
  split
  · rfl
  · split
    · exact x.standing_meetRetryLimit _
    · exact Session.standing_startDraw _ _

theorem Session.standing_remapped (old : Ladder) : (x.remapped old).standing = x.standing := by
  unfold Session.remapped
  extract_lets cap y
  split
  · rfl
  · exact Session.standing_moveTo _ _

end

/-! The blocks' operations keep every session's standing. -/

theorem Stands.refl (s : State) : Stands s s := fun _ => rfl

theorem Stands.trans {s t u : State} (h : Stands s t) (k : Stands t u) : Stands s u := fun i => (k i).trans (h i)

theorem Stands.of_sessions {s t : State} (h : t.sessions = s.sessions) : Stands s t := fun i => by
  unfold State.session; rw [h]

theorem Stands.ite {s t u : State} {c : Prop} [Decidable c] (h : Stands s t) (k : Stands s u) :
    Stands s (if c then t else u) := by
  split <;> assumption

theorem Stands.foldl {α : Type} (f : State → α → State) (step : ∀ s a, Stands s (f s a)) (l : List α) (s : State) :
    Stands s (l.foldl f s) :=
  foldl_related Stands Stands.refl Stands.trans f step l s

theorem Stands.of_apart {s t : State} (h : t.apartFromReports = s.apartFromReports) : Stands s t :=
  .of_sessions (congrArg State.sessions h :)

theorem Stands.modSession {s : State} {i : SessionIx} {f : Session → Session} (h : ∀ x, (f x).standing = x.standing) :
    Stands s (s.modSession i f) := fun j => by
  rw [State.modSession_session]; split
  · exact h _
  · rfl

section
variable (s : State)

theorem State.derive_stands (l : SessionIx) (e : FollowerEntry) : Stands s (s.derive l e) := by
  unfold State.derive
  split
  · exact .refl s
  · exact .ite (.modSession fun x => x.standing_moveTo _) (.refl s)

theorem State.deriveAll_stands (l : SessionIx) : Stands s (s.deriveAll l) :=
  .foldl _ (fun s e => s.derive_stands l e) _ s

theorem State.deriveFollower_stands (l f : SessionIx) : Stands s (s.deriveFollower l f) := by
  unfold State.deriveFollower; split
  · exact .refl s
  · exact s.derive_stands _ _

theorem State.moveRung_stands (i : SessionIx) (k : Nat) : Stands s (s.moveRung i k) :=
  .ite (.refl s) (.trans (.modSession fun x => x.standing_moveTo k) (State.deriveAll_stands _ _))

theorem State.lowerToAllowed_stands (i : SessionIx) : Stands s (s.lowerToAllowed i) := by
  unfold State.lowerToAllowed; simp only []; split
  · exact .refl s
  · exact .ite (s.moveRung_stands _ _) (.refl s)

theorem State.applyVerdict_stands (i : SessionIx) (v : Nat) : Stands s (s.applyVerdict i v) :=
  .ite (.refl s) ((s.moveRung_stands i v).trans (.modSession fun x => x.standing_restartUpHold _))

theorem State.judge_stands (i : SessionIx) : Stands s (s.judge i) := s.applyVerdict_stands _ _

theorem State.toFallback_stands (i : SessionIx) : Stands s (s.toFallback i) :=
  (Stands.trans (.modSession fun x => x.standing_moveTo _) (State.deriveAll_stands _ _)).trans
    (.modSession fun x => x.standing_restartUpHold _)

theorem State.raiseOn_stands (i : SessionIx) (c : Cause) : Stands s (s.raiseOn i c) := .modSession fun _ => rfl

theorem State.resync_stands (h t : SessionIx) : Stands s (s.resync h t) := by
  unfold State.resync
  extract_lets forgotten returned
  have hf : Stands s forgotten := .modSession fun _ => rfl
  have hr : Stands s returned := .ite (hf.trans (State.toFallback_stands _ _)) (hf.trans (State.toFallback_stands _ _))
  have hz : Stands s (returned.modSession h fun x => { x with missRun := 0 }) := hr.trans (.modSession fun _ => rfl)
  exact hz.trans (State.raiseOn_stands _ _ _)

theorem State.takeSample_stands (i : SessionIx) (x : Slot) : Stands s (s.takeSample i x) := by
  unfold State.takeSample; split <;> exact .modSession fun _ => rfl

theorem State.tellGrant_stands (i : SessionIx) : Stands s (s.tellGrant i) := by
  unfold State.tellGrant; simp only []; split
  · exact .refl s
  · exact .ite (.modSession fun _ => rfl) (.refl s)

theorem State.tellFlush_stands (i : SessionIx) : Stands s (s.tellFlush i) := by
  unfold State.tellFlush; split
  · exact .refl s
  · exact .ite (.modSession fun _ => rfl) (.refl s)

theorem State.tellCompletion_stands (i : SessionIx) (b : Bool) : Stands s (s.tellCompletion i b) := by
  unfold State.tellCompletion; split
  · exact .refl s
  · exact .modSession fun x => (Session.standing_quietCompletion _).trans (x.standing_liveCompletion b)

theorem State.setDrainTimers_stands : Stands s s.setDrainTimers := by
  unfold State.setDrainTimers; apply Stands.foldl; intro t i; exact .modSession fun _ => rfl

theorem State.giveShares_stands (c : List ShareClaim) (p : List (SessionIx × Nat)) : Stands s (s.giveShares c p) := by
  unfold State.giveShares; apply Stands.foldl; intro t i; exact .modSession fun _ => rfl

theorem State.recompute_stands : Stands s s.recompute :=
  (s.giveShares_stands s.shareClaims (divide s.allocatable s.shareClaims)).trans (.of_sessions rfl)

theorem State.clearWindows_stands : Stands s s.clearWindows := by
  unfold State.clearWindows; apply Stands.foldl; intro t i; exact .modSession fun _ => rfl

theorem State.overdraw_stands (i : SessionIx) : Stands s (s.overdraw i) := by
  unfold State.overdraw
  extract_lets x capped lowered held
  have hc : Stands s capped := .modSession fun y => y.standing_overdrawn _ _
  have hl : Stands s lowered := .ite (hc.trans (State.moveRung_stands _ _ _)) hc
  have hh : Stands s held := hl.trans (.modSession fun y => y.standing_restartUpHold _)
  exact (hh.trans (State.raiseOn_stands _ _ _)).trans (State.recompute_stands _)

theorem State.originate_stands (n : OutNote) : Stands s (s.originate n).1 := .of_apart (s.originate_apart n)

theorem State.releaseSlots_sessions (i : SessionIx) : (s.releaseSlots i).sessions = s.sessions := by
  unfold State.releaseSlots
  apply foldl_related (fun u v => v.sessions = u.sessions) (fun _ => rfl) (fun h k => k.trans h)
  intro t p; rfl

theorem State.fillSlot_stands (a : Ask) (k : SlotIx) (t : Byte) : Stands s (s.fillSlot a k t) :=
  Stands.modSession (s := s) (i := a.session) (f := fun y =>
    { y with nextTag := t + 1, expiredTags := y.expiredTags.filter fun u => decide (u ≠ t) }) fun _ => rfl

theorem State.grant_stands (a : Ask) : Stands s (s.grant a) := by
  unfold State.grant
  extract_lets judged tag
  have hj : Stands s judged := .trans (.of_sessions rfl) (State.judge_stands _ _)
  split
  · exact hj
  · extract_lets filled
    have hf : Stands s filled := hj.trans (State.fillSlot_stands _ _ _ _)
    exact (hf.trans (State.tellGrant_stands _ _)).trans (State.originate_stands _ _)

theorem State.grantLoop_stands (n : Nat) (s : State) : Stands s (State.grantLoop n s) := by
  induction n generalizing s with
  | zero => exact .refl s
  | succ n ih =>
    unfold State.grantLoop; split
    · exact .refl s
    · exact .ite ((s.grant_stands _).trans (ih _)) (s.grant_stands _)

theorem State.examine_stands : Stands s s.examine := (State.grantLoop_stands _ s).trans (State.setDrainTimers_stands _)

theorem State.attributeBytes_stands (i : SessionIx) (n : Nat) : Stands s (s.attributeBytes i n) := by
  unfold State.attributeBytes; split
  · exact .trans (.of_sessions rfl) (.modSession fun _ => rfl)
  · exact .modSession fun _ => rfl

theorem State.missDeadline_stands (k : SlotIx) (x : Slot) : Stands s (s.missDeadline k x) := by
  unfold State.missDeadline
  extract_lets holder marked counted told
  have hm : Stands s (marked.modSession holder fun y => { y with missRun := y.missRun + 1 }) :=
    Stands.trans (t := marked) (.of_sessions rfl) (.modSession fun _ => rfl)
  have hc : Stands s counted := hm.trans (.modSession fun _ => rfl)
  have ht : Stands s told :=
    ((hc.trans (State.judge_stands _ _)).trans (State.originate_stands _ _)).trans (State.raiseOn_stands _ _ _)
  exact .ite (ht.trans (State.resync_stands _ _ _)) ht

theorem State.expireSlot_stands (k : SlotIx) (x : Slot) : Stands s (s.expireSlot k x) := by
  unfold State.expireSlot
  extract_lets freed
  have hf : Stands s freed := .trans (.of_sessions rfl) (.modSession fun _ => rfl)
  exact (hf.trans (State.raiseOn_stands _ _ _)).trans (State.examine_stands _)

theorem State.firstRung_stands (i : SessionIx) : Stands s (s.firstRung i) := by
  have start : Stands s (s.modSession i fun x => { x with rung := some x.ladder.lowest }) := .modSession fun _ => rfl
  have led := (start.trans (State.deriveAll_stands _ i)).trans
    (Stands.modSession (i := i) (f := fun x => if x.draw.phase = .watching then x.enterSupervision s.time else x) fun x => by
      split <;> rfl)
  unfold State.firstRung; simp only []
  split
  · split
    · exact s.deriveFollower_stands _ _
    · exact start
  · exact led
  · exact led

theorem State.carryRungs_stands (i : SessionIx) (old : Ladder) : Stands s (s.carryRungs i old) := by
  have carried : Stands s (s.modSession i fun x => x.remapped old) := .modSession fun x => x.standing_remapped old
  unfold State.carryRungs
  split
  · split
    · exact s.deriveFollower_stands _ _
    · exact carried
  · exact carried.trans (State.deriveAll_stands _ _)
  · exact carried.trans (State.deriveAll_stands _ _)

theorem State.markOverLow_sessions (i : SessionIx) : (s.markOverLow i).sessions = s.sessions := by
  unfold State.markOverLow
  apply foldl_related (fun u v => v.sessions = u.sessions) (fun _ => rfl) (fun h k => k.trans h)
  intro t k
  split
  · rfl
  · split <;> rfl

theorem settle_stands {t : State} (h : Stands s t) (u : State) : Stands s (settle u t) :=
  h.trans (.of_apart (settle_apart u t))

theorem State.evaluateStart_stands (i : SessionIx) (d : Nat) (c : Bool) : Stands s (s.evaluateStart i d c) := by
  unfold State.evaluateStart
  extract_lets x j timed
  have ht : Stands s timed := .modSession fun _ => rfl
  exact .ite (ht.trans (State.overdraw_stands _ _)) (ht.trans (.modSession fun _ => rfl))

theorem State.evaluateLive_stands (i : SessionIx) (d : Nat) (c : Bool) : Stands s (s.evaluateLive i d c) := by
  unfold State.evaluateLive
  extract_lets x marked timed
  have hm : Stands s marked := .of_sessions (s.markOverLow_sessions i)
  have ht : Stands s timed := hm.trans (.modSession fun _ => rfl)
  exact .ite (.ite (hm.trans (State.overdraw_stands _ _)) (.ite (ht.trans (State.overdraw_stands _ _)) ht)) (.refl s)

theorem State.evaluateWindow_stands (i : SessionIx) : Stands s (s.evaluateWindow i) := by
  unfold State.evaluateWindow
  extract_lets d c kept
  have hk : Stands s kept := .modSession fun _ => rfl
  refine .ite (.ite ?_ hk) (.refl s)
  split
  · exact hk
  · exact settle_stands _ (hk.trans (State.evaluateStart_stands _ _ _ _)) _
  · exact settle_stands _ (hk.trans (State.evaluateLive_stands _ _ _ _)) _

theorem State.endWindow_stands (order : List SessionIx) : Stands s (s.endWindow order) := by
  have evaluated := Stands.foldl State.evaluateWindow (fun t i => t.evaluateWindow_stands i) (windowOrder order) s
  exact (evaluated.trans (State.clearWindows_stands _)).trans (.of_sessions rfl)

theorem State.removeIdle_stands (test : FlowEntry → Bool) : Stands s (s.removeIdle test) := by
  unfold State.removeIdle
  extract_lets idle kept
  exact Stands.trans (t := kept) (.of_sessions rfl) (.foldl _ (fun s e => s.raiseOn_stands _ _) _ kept)

theorem State.lateReport_stands (i : SessionIx) (tag : Byte) : Stands s (s.lateReport i tag).1 := by
  unfold State.lateReport; split
  · exact .modSession fun _ => rfl
  · exact .refl s

theorem State.rearm_stands (i : SessionIx) : Stands s (s.rearm i) := by
  unfold State.rearm
  extract_lets x t
  have ht : Stands s t := .modSession fun y => y.standing_rearmed _
  have hr : Stands s (if x.draw.cap.isSome && x.isContender then t.recompute else t) :=
    .ite (ht.trans (State.recompute_stands _)) ht
  split
  · exact .refl s
  all_goals exact hr

theorem State.retry_stands (i : SessionIx) : Stands s (s.retry i) :=
  (Stands.trans (.modSession fun x => x.standing_retried _) (State.raiseOn_stands _ _ _)).trans (State.recompute_stands _)

theorem State.applySetup_stands (n : SetupNote) : Stands s (s.applySetup n) := by
  unfold State.applySetup
  extract_lets u set trimmed shared
  have hs : Stands s set := .of_sessions rfl
  have ht : Stands s trimmed := .ite hs (hs.trans (State.removeIdle_stands _ _))
  have hh : Stands s shared := .ite ht (ht.trans (State.recompute_stands _))
  exact .ite hh (hh.trans (State.examine_stands _))

theorem State.reSeed_stands : Stands s s.reSeed := by
  unfold State.reSeed
  refine Stands.trans (Stands.of_sessions ?_) (State.recompute_stands _)
  rfl

theorem State.lineUp_stands : Stands s s.lineUp := by
  unfold State.lineUp
  refine Stands.trans (Stands.of_sessions ?_) (State.reSeed_stands _)
  rfl

theorem State.classifyDownlink_stands (bs : List Byte) : Stands s (s.classifyDownlink bs) := by
  unfold State.classifyDownlink; split
  · exact Stands.trans (t := State.hit s _) (.of_sessions rfl) (State.attributeBytes_stands _ _ _)
  · exact .of_sessions rfl

theorem State.queueDownlink_sessions (bs : List Byte) : (s.queueDownlink bs).sessions = s.sessions := by
  unfold State.queueDownlink; split <;> rfl

theorem State.receiveLine_stands (f : Frame) : Stands s (s.receiveLine f) :=
  .ite (.refl s) (.ite (.of_sessions rfl)
    ((s.classifyDownlink_stands f.bytes).trans (.of_sessions (State.queueDownlink_sessions _ _))))

theorem State.classifyUplink_sessions (bs : List Byte) : (s.classifyUplink bs).1.sessions = s.sessions := by
  unfold State.classifyUplink; repeat' split
  all_goals rfl

theorem State.receiveStation_stands (f : Frame) : Stands s (s.receiveStation f) := by
  have control : (s.takeControl f.bytes).sessions = s.sessions := by
    unfold State.takeControl; repeat' split
    all_goals rfl
  have queued : (State.queueUplink (s.classifyUplink f.bytes).1 (s.classifyUplink f.bytes).2).sessions = s.sessions := by
    rw [← s.classifyUplink_sessions f.bytes]
    unfold State.queueUplink; split <;> rfl
  exact .ite (.refl s) (.ite (.of_sessions rfl) (.ite (.of_sessions control) (.of_sessions queued)))

theorem State.beginStation_sessions : s.beginStation.sessions = s.sessions := by
  unfold State.beginStation; repeat' split
  all_goals rfl

theorem State.beginLine_sessions : s.beginLine.sessions = s.sessions := by
  unfold State.beginLine; repeat' split
  all_goals rfl

theorem ClockOnly.sessions {s t : State} (h : ClockOnly s t) : t.sessions = s.sessions := by rw [h]

end

end Sys2Proof.Machine

/-! SUPPORT. The device values stay in their ranges (R46, R49, R132, R172): only SETUP and the link meter's own commands move
them, and each clamps what it writes. -/

namespace Sys2Proof.Machine

theorem clampTo_mem {lo hi : Nat} (h : lo ≤ hi) (x : Nat) : lo ≤ clampTo lo hi x ∧ clampTo lo hi x ≤ hi := by
  unfold clampTo; omega

/-- A field of a range whose default lies in the range lies in it, given or not. -/
theorem fieldOr_mem {lo hi d : Nat} (hd : lo ≤ d ∧ d ≤ hi) (o : Option Nat) : lo ≤ fieldOr lo hi d o ∧ fieldOr lo hi d o ≤ hi := by
  cases o with
  | none => exact hd
  | some v => exact clampTo_mem (hd.1.trans hd.2) v

theorem fieldOr_le {hi d : Nat} (hd : d ≤ hi) (o : Option Nat) : fieldOr 0 hi d o ≤ hi :=
  (fieldOr_mem ⟨Nat.zero_le d, hd⟩ o).2

section
variable {s t : State}

/-- The ranges speak of the SETUP values, the link estimate and the busy accumulator alone. -/
theorem State.DeviceInRange.of_eq (h : s.DeviceInRange) (setup : t.setup = s.setup)
    (estimate : t.meter.estimate = s.meter.estimate) (busy : t.meter.busyAcc = s.meter.busyAcc) : t.DeviceInRange := by
  obtain ⟨h1, h2, h3, h4, h5, h6, h7, h8, h9, h10, h11, h12, h13, h14⟩ := h
  constructor <;> simpa only [setup, estimate, busy]

theorem State.DeviceInRange.gateWork (h : s.DeviceInRange) (w : GateWork s t) : t.DeviceInRange := by
  refine h.of_eq ?_ ?_ ?_ <;> rw [w]

/-- A link estimate in its range and cleared accumulators keep the ranges. -/
theorem State.DeviceInRange.of_estimate (h : s.DeviceInRange) (setup : t.setup = s.setup)
    (estimate : 256 ≤ t.meter.estimate ∧ t.meter.estimate ≤ 1000000) (busy : t.meter.busyAcc = 0) : t.DeviceInRange := by
  obtain ⟨h1, h2, h3, h4, h5, h6, h7, h8, h9, h10, h11, h12, -, -⟩ := h
  constructor <;> first | simpa only [setup] | assumption | omega

/-- The device values after a SETUP lie in their ranges, with the thresholds in order (R132, R172). -/
theorem State.DeviceInRange.applyTo (h : s.DeviceInRange) (n : SetupNote) :
    State.DeviceInRange { s with setup := n.applyTo s.setup } := by
  have high : 17 ≤ n.highValue s.setup ∧ n.highValue s.setup ≤ 64 := fieldOr_mem h.high _
  have mid : 17 ≤ n.midValue s.setup ∧ n.midValue s.setup ≤ n.highValue s.setup := clampTo_mem high.1 _
  exact {
    linkFloor := fieldOr_mem h.linkFloor _
    margin := fieldOr_mem h.margin _
    maxOutstanding := fieldOr_mem h.maxOutstanding _
    grantSpacing := fieldOr_le h.grantSpacing _
    high := high
    mid := mid
    low := clampTo_mem (Nat.le_trans (by decide) mid.1) _
    stageA := fieldOr_le h.stageA _
    stageB := fieldOr_le h.stageB _
    steady := fieldOr_mem h.steady _
    live := fieldOr_mem h.live _
    idle := fieldOr_mem h.idle _
    estimate := h.estimate
    busy := h.busy }

end

/-- Only session records and the flow table differ: what the removal of idle flows does (R165). -/
theorem State.removeIdle_eq (s : State) (test : FlowEntry → Bool) :
    s.removeIdle test = { s with sessions := (s.removeIdle test).sessions, flows := (s.removeIdle test).flows } := by
  unfold State.removeIdle
  extract_lets idle kept
  have h : RecordsOnly kept ((s.flows.filter idle).foldl (fun t e => t.raiseOn e.session .flowExpired) kept) :=
    RecordsOnly.foldl _ (fun t (e : FlowEntry) => t.raiseOn_records e.session .flowExpired) _ _
  rw [h]

/-- A SETUP sets its values; what follows from them moves no device value (R172). -/
theorem State.applySetup_device (s : State) (n : SetupNote) :
    (s.applySetup n).setup = n.applyTo s.setup ∧ (s.applySetup n).meter = s.meter := by
  unfold State.applySetup
  extract_lets u set trimmed shared
  have ht : trimmed.setup = u ∧ trimmed.meter = s.meter := by
    unfold trimmed; split
    · exact ⟨rfl, rfl⟩
    · rw [State.removeIdle_eq]; exact ⟨rfl, rfl⟩
  have hh : GateWork trimmed shared := GateWork.ite (.refl _) trimmed.recompute_shares.gate
  have he : GateWork trimmed (if u.maxOutstanding = s.setup.maxOutstanding then shared else shared.examine) :=
    GateWork.ite hh (hh.trans shared.examine_gateWork)
  rw [he]; exact ht

/-- A re-seed sets the link estimate to the link floor and clears the accumulators (R51). -/
theorem State.reSeed_device (s : State) : s.reSeed.setup = s.setup ∧ s.reSeed.meter =
    { s.meter with estimate := s.setup.linkFloor, busyAcc := 0, byteAcc := 0 } := by
  unfold State.reSeed
  rw [State.recompute_shares]
  exact ⟨rfl, rfl⟩

theorem State.sampleLink_device (s : State) : s.sampleLink.setup = s.setup ∧ s.sampleLink.meter = { s.meter with
    estimate := linkUpdate s.meter.estimate (linkSampleValue s.meter.byteAcc)
    busyAcc := 0, byteAcc := 0, linkSamples := s.meter.linkSamples + 1 } := by
  unfold State.sampleLink
  rw [State.recompute_shares]
  exact ⟨rfl, rfl⟩

/-- Only session records, slots, the flow table and the other bytes differ: what a classified downlink frame moves. -/
theorem State.classifyDownlink_eq (s : State) (bs : List Byte) : s.classifyDownlink bs =
    { s with sessions := (s.classifyDownlink bs).sessions, gate.slots := (s.classifyDownlink bs).gate.slots
             flows := (s.classifyDownlink bs).flows, path.otherBytes := (s.classifyDownlink bs).path.otherBytes } := by
  unfold State.classifyDownlink; split
  · unfold State.attributeBytes; split <;> rfl
  · rfl

/-- The first part of what a downlink frame moves: the link estimate, the accumulator and the device values stand. -/
theorem State.receiveLine_device (s : State) (f : Frame) : (s.receiveLine f).setup = s.setup ∧
    (s.receiveLine f).meter.estimate = s.meter.estimate ∧ (s.receiveLine f).meter.busyAcc = s.meter.busyAcc := by
  unfold State.receiveLine
  rw [State.classifyDownlink_eq]
  unfold State.queueDownlink; repeat' split
  all_goals exact ⟨rfl, rfl, rfl⟩

/-- Only the flow table differs. -/
theorem State.classifyUplink_eq (s : State) (bs : List Byte) :
    (s.classifyUplink bs).1 = { s with flows := (s.classifyUplink bs).1.flows } := by
  unfold State.classifyUplink; repeat' split
  all_goals rfl

/-- Only the flow table, the uplink queue, the control input queue and two drop counters differ: what an uplink frame moves. -/
theorem State.receiveStation_eq (s : State) (f : Frame) : s.receiveStation f =
    { s with flows := (s.receiveStation f).flows, control.inputQueue := (s.receiveStation f).control.inputQueue
             path.uplinkQueue := (s.receiveStation f).path.uplinkQueue
             path.uplinkDrops := (s.receiveStation f).path.uplinkDrops
             path.controlFramesDropped := (s.receiveStation f).path.controlFramesDropped } := by
  unfold State.receiveStation State.takeControl State.queueUplink State.classifyUplink
  simp only []
  repeat' split
  all_goals rfl

theorem State.beginStation_eq (s : State) : s.beginStation =
    { s with path.reportQueue := s.beginStation.path.reportQueue, path.downlinkQueue := s.beginStation.path.downlinkQueue
             path.station.sending := s.beginStation.path.station.sending } := by
  unfold State.beginStation; repeat' split
  all_goals rfl

theorem State.beginLine_eq (s : State) : s.beginLine =
    { s with path.uplinkQueue := s.beginLine.path.uplinkQueue, path.line.sending := s.beginLine.path.line.sending } := by
  unfold State.beginLine; repeat' split
  all_goals rfl


theorem State.lateReport_records (s : State) (i : SessionIx) (tag : Byte) : RecordsOnly s (s.lateReport i tag).1 := by
  unfold State.lateReport; split <;> rfl

theorem State.finishSlot_gateWork (s : State) (k : SlotIx) (x : Slot) (o : FetchOutcome) :
    GateWork s (s.finishSlot k x o) := by
  have freed := s.setSlot_gateWork k none
  unfold State.finishSlot; simp only []; split
  · exact (freed.trans (State.completeFetch_records _ _).gate).trans (State.examine_gateWork _)
  · exact freed.trans (State.examine_gateWork _)

theorem State.blindSession_records (s : State) (i : SessionIx) : RecordsOnly s (s.blindSession i) := by
  unfold State.blindSession; simp only []; split <;> rfl

theorem State.retry_shares (s : State) (i : SessionIx) : SharesOnly s (s.retry i) := by
  unfold State.retry
  exact ((s.modSession_records i _).trans (State.raiseOn_records _ _ _)).shares.trans (State.recompute_shares _)

/-- Only session records, the allocation, the fetch gate, the report queue with its counter and the last top attention sent
differ: gate work with the comparison that follows it. -/
def GateWorkAnnounced (s t : State) : Prop :=
  t = { s with sessions := t.sessions, alloc := t.alloc, gate := t.gate
               path.reportQueue := t.path.reportQueue
               path.reportNotesDropped := t.path.reportNotesDropped
               control.lastTop := t.control.lastTop }

theorem GateWorkAnnounced.refl (s : State) : GateWorkAnnounced s s := rfl

theorem GateWorkAnnounced.trans {s t u : State} (h : GateWorkAnnounced s t) (k : GateWorkAnnounced t u) :
    GateWorkAnnounced s u := by
  unfold GateWorkAnnounced at *; rw [k, h]

theorem GateWork.announced {s t : State} (h : GateWork s t) : GateWorkAnnounced s t := by
  unfold GateWork GateWorkAnnounced at *; rw [h]

theorem State.compareAttention_announced (s : State) : GateWorkAnnounced s s.compareAttention := by
  unfold State.compareAttention
  split
  · rfl
  · split
    · rfl
    · extract_lets sent
      have hs : GateWork s sent.1 := s.originate_gateWork _
      split
      · exact hs.announced.trans rfl
      · exact hs.announced

theorem settle_announced {t u : State} (h : GateWorkAnnounced t u) (s : State) : GateWorkAnnounced t (settle s u) := by
  unfold settle; split
  · exact h
  · exact h.trans u.compareAttention_announced

theorem State.markOverLow_gateWork (s : State) (i : SessionIx) : GateWork s (s.markOverLow i) := by
  unfold State.markOverLow
  apply GateWork.foldl
  intro t k
  split
  · rfl
  · split <;> rfl

theorem State.evaluateStart_shares (s : State) (i : SessionIx) (d : Nat) (c : Bool) : SharesOnly s (s.evaluateStart i d c) := by
  unfold State.evaluateStart
  extract_lets x j timed
  have ht : SharesOnly s timed := (s.modSession_records _ _).shares
  exact .ite (ht.trans (timed.overdraw_shares _)) (ht.trans (timed.modSession_records _ _).shares)

theorem State.evaluateLive_gateWork (s : State) (i : SessionIx) (d : Nat) (c : Bool) : GateWork s (s.evaluateLive i d c) := by
  unfold State.evaluateLive
  extract_lets x marked timed
  have hm : GateWork s marked := s.markOverLow_gateWork i
  have ht : GateWork s timed := hm.trans (marked.modSession_records _ _).gate
  exact .ite (.ite (hm.trans (marked.overdraw_shares _).gate) (.ite (ht.trans (timed.overdraw_shares _).gate) ht)) (.refl s)

theorem State.evaluateWindow_announced (s : State) (i : SessionIx) : GateWorkAnnounced s (s.evaluateWindow i) := by
  unfold State.evaluateWindow
  extract_lets d c kept
  have hk : GateWork s kept := (s.modSession_records _ _).gate
  split
  · split
    · split
      · exact hk.announced
      · exact settle_announced (hk.trans (kept.evaluateStart_shares _ _ _).gate).announced _
      · exact settle_announced (hk.trans (kept.evaluateLive_gateWork _ _ _)).announced _
    · exact hk.announced
  · exact .refl s

/-- A window end works at the gate, announces causes, and is then taken. -/
theorem State.endWindow_announced (s : State) (order : List SessionIx) :
    ∃ u, GateWorkAnnounced s u ∧ s.endWindow order = { u with windowDue := false } :=
  ⟨_, (foldl_related GateWorkAnnounced .refl .trans _ (fun t i => t.evaluateWindow_announced i) (windowOrder order) s).trans
    (State.clearWindows_records _).gate.announced, rfl⟩

/-- The commands whose effect is gate work: it moves session records, shares and the fetch gate, and queues reports. -/
def Instr.worksAtGate : Instr → Bool
  | .openSession _ | .sessionReset _ | .sessionStatus _ | .profile _ | .ladderLoad _ | .tether _ | .untether _ | .rearm _
  | .askFetch _ | .doneFetch _ | .abortFetch _ | .play _ | .emptyPoint _ | .freshnessTimerExpiry _ | .upHoldExpiry _
  | .deadline _ | .expiry _ | .spacingHoldExpiry | .drainTimerExpiry _ | .retryExpiry _ => true
  | _ => false

theorem Effect.gateWork {c : Instr} {s e : State} (he : Effect s c e) (hc : Instr.worksAtGate c = true) : GateWork s e := by
  cases he with
  | openSession i | sessionStatus i | stage _ i | emptyPoint i | upHold i => exact (s.modSession_records i _).gate
  | sessionReset i => exact s.resetSession_gateWork i _
  | prime n i => exact s.prime_gateWork i _
  | reprofile n i => exact s.reprofile_gateWork i _
  | publish n i l => exact (s.modSession_records i _).gate.trans (State.publish_shares _ i l).gate
  | tether n l f => exact s.tether_gateWork l f _
  | untether i l => exact (s.release_records l i).gate.trans (State.recompute_shares _).gate
  | rearm i => exact (s.rearm_shares i).gate
  | askFetch n i => exact s.queueAsk_gateWork i n
  | doneFetch n i k x => exact s.finishSlot_gateWork k x _
  | doneLate n i tag | abortLate n i tag => exact (s.lateReport_records i tag).gate
  | abortFetch n k => exact (s.setSlot_gateWork k none).trans (State.examine_gateWork _)
  | play n i => exact s.playReport_gateWork i n
  | freshness i => exact (s.blindSession_records i).gate
  | deadline k x => exact s.missDeadline_gateWork k x
  | expiry k x => exact s.expireSlot_gateWork k x
  | spacingHold =>
    have cleared : GateWork s { s with gate.spacingHold := none } := rfl
    exact cleared.trans (State.examine_gateWork _)
  | drainTimer i => exact (s.modSession_records i _).gate.trans (State.examine_gateWork _)
  | retry i => exact (s.retry_shares i).gate
  | _ => cases hc

theorem State.reset_deviceInRange : State.DeviceInRange State.reset := by constructor <;> decide

/-- The ranges hold after every effect: of SETUP, a re-seed, a sample and a busy millisecond because they clamp or count within
them, of the resets because the reset state has them, and of all others because they leave device and meter alone. -/
theorem Effect.keeps_deviceInRange {c : Instr} {s e : State} (he : Effect s c e) (h : s.DeviceInRange) : e.DeviceInRange := by
  have reSeed : ∀ u : State, u.DeviceInRange → u.reSeed.DeviceInRange := fun u hu => by
    obtain ⟨setup, meter⟩ := u.reSeed_device
    exact hu.of_estimate setup (by rw [meter]; exact hu.linkFloor) (by rw [meter])
  have effect := he
  cases he with
  | powerOn | resetInput | deviceResetTaken => exact State.reset_deviceInRange.of_eq rfl rfl rfl
  | resetInputRelease | lineCarrierDown | stationCarrierUp | stationCarrierDown | batch | claim | deviceStatus | linkSnapshot |
      deviceReset | millisecond | flowBind | flowUnbind => exact h.of_eq rfl rfl rfl
  | lineCarrierUp => exact reSeed _ (h.of_eq rfl rfl rfl)
  | linkRestart => exact reSeed s h
  | downlinkFrame f => obtain ⟨h1, h2, h3⟩ := s.receiveLine_device f; exact h.of_eq h1 h2 h3
  | uplinkFrame f | controlFrame f => rw [s.receiveStation_eq]; exact h.of_eq rfl rfl rfl
  | setup n =>
    obtain ⟨setup, meter⟩ := s.applySetup_device n
    exact (h.applyTo n).of_eq setup (by rw [meter]) (by rw [meter])
  | stationTransmit => rw [s.beginStation_eq]; exact h.of_eq rfl rfl rfl
  | lineTransmit => rw [s.beginLine_eq]; exact h.of_eq rfl rfl rfl
  | closeSession i =>
    have removed : (s.removeFlows i).DeviceInRange := h.of_eq rfl rfl rfl
    exact removed.gateWork (State.resetSession_gateWork _ i _)
  | linkSample =>
    obtain ⟨setup, meter⟩ := s.sampleLink_device
    exact h.of_estimate setup (by rw [meter]; exact clampTo_mem (by decide) _) (by rw [meter])
  | drawWindow order =>
    obtain ⟨u, hu, taken⟩ := s.endWindow_announced order
    rw [taken, hu]; exact h.of_eq rfl rfl rfl
  | flowIdle key => rw [s.removeIdle_eq]; exact h.of_eq rfl rfl rfl
  | busyMillisecond room =>
    obtain ⟨h1, h2, h3, h4, h5, h6, h7, h8, h9, h10, h11, h12, h13, -⟩ := h
    exact ⟨h1, h2, h3, h4, h5, h6, h7, h8, h9, h10, h11, h12, h13, room⟩
  | _ => exact h.gateWork (effect.gateWork rfl)

/-- Settles O55: the ranges hold after every effect, and neither reports nor the clock touch a device value. -/
theorem deviceRangesAreKept : Obligations.DeviceRangesAreKept := by
  intro s t hs hstep
  refine step_keeps (P := State.DeviceInRange) (fun clock h => ?_) (fun h hx => ?_) hs hstep
  · rw [clock]; exact h.of_eq rfl rfl rfl
  · refine exec_keeps (fun {u v} reports hu => ?_) (fun he hu => he.keeps_deviceInRange hu) h hx
    have setup : v.setup = u.setup := (congrArg State.setup reports.apart :)
    have meter : v.meter = u.meter := (congrArg State.meter reports.apart :)
    exact hu.of_eq setup (by rw [meter]) (by rw [meter])

end Sys2Proof.Machine

/-! SUPPORT. Records in agreement with their admin state (R13, R21, R54): each change of one record keeps it sound, and each
command's effect changes records by such changes alone. -/

namespace Sys2Proof.Machine

section
variable {x y : Session}

/-- Soundness speaks of the admin state, of which of ladder, profile and effective values are held, and of the anchor. -/
theorem Session.Sound.of_fields (h : x.Sound) (admin : y.admin = x.admin) (published : y.published.isSome = x.published.isSome)
    (profile : y.profile.isSome = x.profile.isSome) (eff : y.eff.isSome = x.eff.isSome) (anchor : y.buffer.anchor ≤ 120000) :
    y.Sound := by
  constructor
  · rw [published, admin]; exact h.published
  · rw [profile, admin]; exact h.profile
  · rw [eff, profile]; exact h.effective
  · exact anchor

theorem Session.Sound.of_standing (h : x.Sound) (k : y.standing = x.standing) : y.Sound :=
  h.of_fields (admin_of_standing k) (by rw [published_of_standing k]) (by rw [profile_of_standing k])
    (by rw [eff_of_standing k]) (by rw [buffer_of_standing k]; exact h.anchor)

end

section
variable {x : Session} {now : Time}

/-- The modelled level never exceeds the anchor (R55). -/
theorem Session.level_le_anchor (x : Session) (now : Time) : x.level now ≤ x.buffer.anchor := by
  unfold Session.level; split <;> omega

theorem Session.Sound.anchorAt (h : x.Sound) {v : Nat} (hv : v ≤ 120000) : (x.anchorAt now v).Sound :=
  h.of_fields rfl rfl rfl rfl hv

theorem Session.Sound.reAnchor (h : x.Sound) : (x.reAnchor now).Sound := h.anchorAt ((x.level_le_anchor now).trans h.anchor)

theorem Session.Sound.credit (h : x.Sound) (duration : Nat) : (x.credit now duration).Sound := h.anchorAt (min_le_left _ _)

theorem Session.Sound.setPlayback (h : x.Sound) (p : Playback) : (x.setPlayback now p).Sound := by
  have anchored : (x.reAnchor now).buffer.anchor ≤ 120000 := h.reAnchor.anchor
  unfold Session.setPlayback; simp only []; split
  · exact h
  · split <;> exact h.of_fields rfl rfl rfl rfl anchored

theorem Session.Sound.report (h : x.Sound) : (x.report now).Sound := by
  unfold Session.report; repeat' split
  all_goals exact h.of_fields rfl rfl rfl rfl h.anchor

theorem Session.Sound.refreshLimit (h : x.Sound) (old : Option Nat) : (x.refreshLimit now old).Sound := by
  unfold Session.refreshLimit; repeat' split
  all_goals exact h.of_fields rfl rfl rfl rfl h.anchor

theorem Session.Sound.blinded (h : x.Sound) : x.blinded.Sound := h.of_fields rfl rfl rfl rfl h.anchor

theorem Session.Sound.emptied (h : x.Sound) : (x.emptied now).Sound := h.of_fields rfl rfl rfl rfl (Nat.zero_le _)

/-- New effective values set the values, re-anchor the buffer model, and leave the rest (R61). -/
theorem Session.setEffective_cases (x : Session) (now : Time) (e : Effective) :
    x.setEffective now e = { x with eff := some e } ∨
    x.setEffective now e = Session.withEmptyPoint { x.reAnchor now with eff := some e } := by
  unfold Session.setEffective; split
  · exact .inl rfl
  · exact .inr rfl

theorem Session.setEffective_fields (x : Session) (now : Time) (e : Effective) : (x.setEffective now e).admin = x.admin ∧
    (x.setEffective now e).role = x.role ∧ (x.setEffective now e).published = x.published ∧
    (x.setEffective now e).profile = x.profile ∧ (x.setEffective now e).eff = some e ∧
    (x.setEffective now e).buffer.anchor ≤ x.buffer.anchor := by
  rcases x.setEffective_cases now e with h | h <;> rw [h]
  · exact ⟨rfl, rfl, rfl, rfl, rfl, le_rfl⟩
  · exact ⟨rfl, rfl, rfl, rfl, rfl, x.level_le_anchor now⟩

theorem Session.Sound.played (h : x.Sound) (n : PlayNote) : (x.played now n).Sound := by
  unfold Session.played
  extract_lets a b c
  have ha : a.Sound := h.setPlayback n.state
  have hb : b.Sound := by
    unfold b; split
    · exact ha
    · exact ha.anchorAt (min_le_left _ _)
  have hc : c.Sound := hb.report
  split
  · next p e _ he =>
    obtain ⟨admin, -, published, profile, eff, anchor⟩ := c.setEffective_fields now (e.hinted p n)
    exact hc.of_fields admin (by rw [published]) (by rw [profile]) (by rw [eff, he]; rfl) (anchor.trans hc.anchor)
  · exact hc
  · exact hc

theorem Session.Sound.takeCopy (h : x.Sound) (p : Profile) : (x.takeCopy now p).Sound := by
  unfold Session.takeCopy
  split
  · exact h
  · next own hown =>
    extract_lets q y
    have hy : y.Sound := h.of_fields rfl rfl (by simp [y, hown]) (by simp [y]) h.anchor
    split
    · exact hy
    · exact hy.refreshLimit _

theorem Session.Sound.becomeFollower (h : x.Sound) (l : SessionIx) (p : Profile) : (x.becomeFollower now l p).Sound := by
  have followed : Session.Sound { x with role := .follower l } := h.of_fields rfl rfl rfl rfl h.anchor
  exact (followed.takeCopy (now := now) p).of_standing rfl

theorem Session.released_eq (x : Session) (now : Time) :
    x.released now = { x with role := .independent, draw := (x.released now).draw } := by
  unfold Session.released; simp only []; repeat' split
  all_goals rfl

theorem Session.Sound.released (h : x.Sound) : (x.released now).Sound := by
  rw [x.released_eq]; exact h.of_fields rfl rfl rfl rfl h.anchor

/-- A profile on a session that held none primes it: it holds no ladder (R8). -/
theorem Session.Sound.primed (h : x.Sound) (unprofiled : x.admin = .unprofiled) (p : Profile) :
    (Session.startDraw { x.setEffective now p.effective with admin := .primed, profile := some p } now).Sound := by
  obtain ⟨-, -, published, -, eff, anchor⟩ := x.setEffective_fields now p.effective
  refine Session.Sound.of_standing ?_ (Session.standing_startDraw _ now)
  have unpublished : x.published.isSome = false := by
    have hp := h.published
    rw [unprofiled] at hp
    simpa using hp
  exact ⟨by rw [published, unpublished]; simp, by simp, by simp [eff], anchor.trans h.anchor⟩

theorem Session.Sound.reprofiled (h : x.Sound) (profiled : x.admin = .primed ∨ x.admin = .streaming) (p : Profile) :
    (x.reprofiled now p).Sound := by
  unfold Session.reprofiled
  extract_lets y
  obtain ⟨admin, -, published, -, eff, anchor⟩ := x.setEffective_fields now p.effective
  have held : x.profile.isSome = true := h.profile.mpr profiled
  have effective : (x.setEffective now p.effective).eff.isSome = x.eff.isSome := by rw [eff, h.effective, held]; rfl
  have hy : Session.Sound { x.setEffective now p.effective with profile := some p } :=
    h.of_fields admin (congrArg Option.isSome published) held.symm effective (anchor.trans h.anchor)
  have hz : Session.Sound (Session.reprofileDraw { x.setEffective now p.effective with profile := some p } now x.drawKind) :=
    hy.of_standing (Session.standing_reprofileDraw _ now _)
  exact hz.refreshLimit _

/-- The record a reset or a close leaves holds no profile and no ladder (R16, R17). -/
theorem Session.cleared_sound (x : Session) {a : Admin} (ha : a = .vacant ∨ a = .unprofiled) : (x.cleared a now).Sound := by
  rcases ha with rfl | rfl <;> constructor <;> simp [Session.cleared, Session.starting]

theorem Session.starting_sound {a : Admin} (ha : a = .vacant ∨ a = .unprofiled) : (Session.starting a now).Sound := by
  rcases ha with rfl | rfl <;> constructor <;> simp [Session.starting]

end

/-- An examination of a state with the same records. -/
theorem State.examine_stands_of {s t : State} (h : t.sessions = s.sessions) : Stands s t.examine :=
  (Stands.of_sessions h).trans t.examine_stands

/-- Every sound record stays sound. -/
def KeepsSound (s t : State) : Prop := ∀ i, (s.session i).Sound → (t.session i).Sound

theorem KeepsSound.refl (s : State) : KeepsSound s s := fun _ h => h

theorem KeepsSound.trans {s t u : State} (h : KeepsSound s t) (k : KeepsSound t u) : KeepsSound s u := fun i hi => k i (h i hi)

theorem Stands.keepsSound {s t : State} (h : Stands s t) : KeepsSound s t := fun i hi => hi.of_standing (h i)

theorem KeepsSound.ite {s t u : State} {c : Prop} [Decidable c] (h : KeepsSound s t) (k : KeepsSound s u) :
    KeepsSound s (if c then t else u) := by
  split <;> assumption

theorem KeepsSound.modSession {s : State} {i : SessionIx} {f : Session → Session}
    (h : (s.session i).Sound → (f (s.session i)).Sound) : KeepsSound s (s.modSession i f) := fun j hj => by
  rw [State.modSession_session]; split
  · next e => subst e; exact h hj
  · exact hj

theorem KeepsSound.foldl {α : Type} (f : State → α → State) (step : ∀ s a, KeepsSound s (f s a)) (l : List α) (s : State) :
    KeepsSound s (l.foldl f s) :=
  foldl_related KeepsSound KeepsSound.refl KeepsSound.trans f step l s

/-- A change of a record's role alone. -/
theorem KeepsSound.role (s : State) (i : SessionIx) (r : Session → TetherRole) :
    KeepsSound s (s.modSession i fun x => { x with role := r x }) :=
  .modSession fun h => h.of_fields rfl rfl rfl rfl h.anchor

section
variable (s : State)

theorem State.copyToFollowers_keepsSound (l : SessionIx) : KeepsSound s (s.copyToFollowers l) := by
  refine .foldl _ (fun t e => ?_) _ s
  unfold State.copyProfile; split
  · exact .refl t
  · exact .modSession fun h => h.takeCopy _

theorem State.release_keepsSound (l f : SessionIx) : KeepsSound s (s.release l f) :=
  (KeepsSound.role s l _).trans (.modSession fun h => h.released)

theorem State.dissolve_keepsSound (i : SessionIx) : KeepsSound s (s.dissolve i) := by
  unfold State.dissolve; split
  · exact .refl s
  · exact .foldl _ (fun t e => t.release_keepsSound _ _) _ s
  · exact .role s _ _

theorem State.resetSession_keepsSound (i : SessionIx) {a : Admin} (ha : a = .vacant ∨ a = .unprofiled) :
    KeepsSound s (s.resetSession i a) := by
  unfold State.resetSession
  extract_lets x emptied cleared shared
  have he : KeepsSound s emptied :=
    (s.dissolve_keepsSound i).trans (Stands.of_sessions (State.releaseSlots_sessions _ i)).keepsSound
  have hc : KeepsSound s cleared := he.trans (.modSession fun _ => Session.cleared_sound _ ha)
  have hs : KeepsSound s shared := .ite (hc.trans cleared.recompute_stands.keepsSound) hc
  exact .ite hs (hs.trans shared.examine_stands.keepsSound)

theorem State.bind_keepsSound (l f : SessionIx) (m : Option (List Nat)) : KeepsSound s (s.bind l f m) := by
  unfold State.bind
  extract_lets entry led joined
  have hl : KeepsSound s led := .role s l _
  have hj : KeepsSound s joined := by
    unfold joined; split
    · exact hl
    · exact hl.trans (.modSession fun h => h.becomeFollower _ _)
  exact hj.trans (joined.deriveFollower_stands l f).keepsSound

theorem State.tether_keepsSound (l f : SessionIx) (m : Option (List Nat)) : KeepsSound s (s.tether l f m) := by
  unfold State.tether
  extract_lets t
  have ht : KeepsSound s t := (s.bind_keepsSound l f m).trans (State.recompute_stands _).keepsSound
  exact .ite ht (ht.trans t.examine_stands.keepsSound)

theorem State.reprofile_keepsSound (i : SessionIx) (p : Profile)
    (profiled : (s.session i).admin = .primed ∨ (s.session i).admin = .streaming) : KeepsSound s (s.reprofile i p) := by
  unfold State.reprofile
  extract_lets x y stored raised copied shared
  have hs : KeepsSound s stored := .modSession fun h => h.reprofiled profiled p
  have hr : KeepsSound s raised := .ite (hs.trans (stored.raiseOn_stands _ _).keepsSound) hs
  have hc : KeepsSound s copied :=
    (hr.trans (raised.lowerToAllowed_stands i).keepsSound).trans (State.copyToFollowers_keepsSound _ i)
  have hh : KeepsSound s shared := .ite (hc.trans copied.recompute_stands.keepsSound) hc
  exact .ite (hh.trans shared.examine_stands.keepsSound) hh

theorem State.reformMap_keepsSound (i : SessionIx) : KeepsSound s (s.reformMap i) := by
  unfold State.reformMap; split
  · exact .refl s
  · exact .refl s
  · exact .role s _ _

theorem State.publish_keepsSound (i : SessionIx) (l : Ladder)
    (profiled : (s.session i).admin = .primed ∨ (s.session i).admin = .streaming) : KeepsSound s (s.publish i l) := by
  unfold State.publish
  extract_lets x stored carried
  have hp : KeepsSound s (s.modSession i fun y =>
      { y with published := some l, generation := y.generation + 1, admin := .streaming }) :=
    .modSession fun h => ⟨by simp, by simpa using h.profile.mpr profiled, h.effective, h.anchor⟩
  have hs : KeepsSound s stored := hp.trans (State.reformMap_keepsSound _ i)
  have hc : KeepsSound s carried :=
    .ite (hs.trans (stored.carryRungs_stands _ _).keepsSound) (hs.trans (stored.firstRung_stands _).keepsSound)
  have hh : KeepsSound s (carried.modSession i fun y => y.restartUpHold s.time) :=
    hc.trans (Stands.modSession fun y => y.standing_restartUpHold _).keepsSound
  exact hh.trans (State.recompute_stands _).keepsSound

theorem State.playReport_keepsSound (i : SessionIx) (n : PlayNote) : KeepsSound s (s.playReport i n) := by
  unfold State.playReport
  extract_lets x y stored lowered shared
  have hs : KeepsSound s stored := .modSession fun h => h.played n
  have hl : KeepsSound s lowered := .ite hs (hs.trans (stored.lowerToAllowed_stands _).keepsSound)
  have hh : KeepsSound s shared := .ite hl (hl.trans lowered.recompute_stands.keepsSound)
  exact .ite (hh.trans shared.examine_stands.keepsSound) hh

theorem State.queueAsk_keepsSound (i : SessionIx) (n : AskNote) : KeepsSound s (s.queueAsk i n) := by
  unfold State.queueAsk
  extract_lets flushed
  have h0 : KeepsSound s (s.modSession i fun x => x.anchorAt s.time 0) := .modSession fun h => h.anchorAt (Nat.zero_le _)
  have h1 := h0.trans (Stands.of_sessions (State.releaseSlots_sessions _ i)).keepsSound
  have hf : KeepsSound s flushed := .ite (h1.trans (State.tellFlush_stands _ i).keepsSound) (.refl s)
  exact hf.trans (State.examine_stands_of (by rfl)).keepsSound

theorem State.completeFetch_keepsSound (x : Slot) : KeepsSound s (s.completeFetch x) := by
  unfold State.completeFetch
  extract_lets i credited sampled counted cleared
  have hc : KeepsSound s credited := .modSession fun h => h.credit _
  have hs : KeepsSound s sampled := hc.trans (credited.takeSample_stands _ _).keepsSound
  have hcounted : Stands sampled counted := .modSession fun _ => rfl
  have ht : KeepsSound s counted := hs.trans hcounted.keepsSound
  have hcleared : Stands counted cleared := .ite (.refl _) (.modSession fun _ => rfl)
  have hl : KeepsSound s cleared := ht.trans hcleared.keepsSound
  exact hl.trans (cleared.tellCompletion_stands _ _).keepsSound

theorem State.finishSlot_keepsSound (k : SlotIx) (x : Slot) (o : FetchOutcome) : KeepsSound s (s.finishSlot k x o) := by
  have freed : KeepsSound s (s.setSlot k none) := (Stands.of_sessions rfl).keepsSound
  unfold State.finishSlot; simp only []; split
  · exact (freed.trans (State.completeFetch_keepsSound _ _)).trans (State.examine_stands _).keepsSound
  · exact freed.trans (State.examine_stands _).keepsSound

theorem State.blindSession_keepsSound (i : SessionIx) : KeepsSound s (s.blindSession i) := by
  have blind : KeepsSound s (s.modSession i Session.blinded) := .modSession fun h => h.blinded
  unfold State.blindSession; simp only []; split
  · exact blind.trans (State.raiseOn_stands _ _ _).keepsSound
  · exact blind
  · exact blind

end

/-- The commands whose effects change a session's standing; every other command leaves each session's as it is. -/
def Instr.reshapes : Instr → Bool
  | .powerOn => true
  | .resetInput => true
  | .deviceResetTaken => true
  | .openSession _ => true
  | .sessionReset _ => true
  | .closeSession _ => true
  | .profile _ => true
  | .ladderLoad _ => true
  | .tether _ => true
  | .untether _ => true
  | .askFetch _ => true
  | .doneFetch _ => true
  | .play _ => true
  | .emptyPoint _ => true
  | .freshnessTimerExpiry _ => true
  | _ => false

theorem Effect.stands {s e : State} {c : Instr} (he : Effect s c e) (hc : Instr.reshapes c = false) : Stands s e := by
  cases he with
  | resetInputRelease | lineCarrierDown | stationCarrierUp | stationCarrierDown | batch | claim | deviceStatus | linkSnapshot |
      deviceReset | millisecond | busyMillisecond | flowBind | flowUnbind => exact .of_sessions rfl
  | lineCarrierUp => exact s.lineUp_stands
  | linkRestart => exact s.reSeed_stands
  | downlinkFrame f => exact s.receiveLine_stands f
  | uplinkFrame f | controlFrame f => exact s.receiveStation_stands f
  | setup n => exact s.applySetup_stands n
  | sessionStatus i | upHold i => exact .modSession fun _ => rfl
  | rearm i => exact s.rearm_stands i
  | abortFetch n k => unfold State.abortSlot; exact State.examine_stands_of rfl
  | abortLate n i tag => exact s.lateReport_stands i tag
  | stationTransmit => exact .of_sessions s.beginStation_sessions
  | lineTransmit => exact .of_sessions s.beginLine_sessions
  | linkSample =>
    unfold State.sampleLink
    refine Stands.trans (Stands.of_sessions ?_) (State.recompute_stands _)
    rfl
  | deadline k x => exact s.missDeadline_stands k x
  | expiry k x => exact s.expireSlot_stands k x
  | spacingHold => exact State.examine_stands_of rfl
  | drainTimer i =>
    refine Stands.trans (Stands.modSession fun _ => ?_) (State.examine_stands _)
    rfl
  | drawWindow order => exact s.endWindow_stands order
  | retry i => exact s.retry_stands i
  | flowIdle key => exact s.removeIdle_stands _
  | _ => cases hc

/-- The reset state's records are VACANT ones. -/
theorem State.session_reset (i : SessionIx) : State.reset.session i = Session.vacant := by
  simp [State.reset, State.session]

/-- The records of a state in its power-on state are VACANT ones (R1). -/
theorem State.session_of_reset {t : State} (h : t.sessions = State.reset.sessions) (i : SessionIx) :
    t.session i = Session.vacant := by
  rw [← State.session_reset i]; unfold State.session; rw [h]

theorem Effect.keepsSound {s e : State} {c : Instr} (he : Effect s c e) : KeepsSound s e := by
  have reset : ∀ t : State, t.sessions = State.reset.sessions → KeepsSound s t := fun t h i _ => by
    rw [State.session_of_reset h]; exact Session.starting_sound (.inl rfl)
  cases hc : Instr.reshapes c with
  | false => exact (he.stands hc).keepsSound
  | true =>
    cases he with
    | powerOn | resetInput | deviceResetTaken => exact reset _ rfl
    | openSession i _ => exact .modSession fun _ => Session.starting_sound (.inr rfl)
    | sessionReset i _ => exact s.resetSession_keepsSound i (.inr rfl)
    | closeSession i _ =>
      exact KeepsSound.trans (t := s.removeFlows i) (.refl s) (State.resetSession_keepsSound _ i (.inl rfl))
    | prime n i unprofiled _ =>
      exact KeepsSound.trans (.modSession fun h => h.primed unprofiled _) (State.examine_stands _).keepsSound
    | reprofile n i profiled _ => exact s.reprofile_keepsSound i _ profiled
    | stage n i _ => exact .modSession fun h => h.of_fields rfl rfl rfl rfl h.anchor
    | publish n i l profiled _ =>
      have staged : KeepsSound s (s.modSession i fun x => { x with staging := x.staging.load n }) :=
        .modSession fun h => h.of_fields rfl rfl rfl rfl h.anchor
      exact staged.trans (State.publish_keepsSound _ i l (by simpa using profiled))
    | tether n l f _ => exact s.tether_keepsSound l f _
    | untether i l _ _ => exact (s.release_keepsSound l i).trans (State.recompute_stands _).keepsSound
    | askFetch n i _ _ => exact s.queueAsk_keepsSound i n
    | doneFetch n i k x _ _ => exact s.finishSlot_keepsSound k x _
    | doneLate n i tag => exact (s.lateReport_stands i tag).keepsSound
    | play n i _ => exact s.playReport_keepsSound i n
    | emptyPoint i => exact .modSession fun h => h.emptied
    | freshness i => exact s.blindSession_keepsSound i
    | _ => cases hc

theorem State.RecordsSound.of_sessions {s t : State} (h : t.sessions = s.sessions) (hs : s.RecordsSound) : t.RecordsSound :=
  fun i => (Stands.of_sessions h).keepsSound i (hs i)

theorem exec_keeps_recordsSound {c : Instr} {s t : State} (hs : s.RecordsSound) (h : exec c s = .next t) : t.RecordsSound :=
  exec_keeps (P := State.RecordsSound) (fun reports h => State.RecordsSound.of_sessions (congrArg State.sessions reports.apart :) h)
    (fun he h i => he.keepsSound i (h i)) hs h

/-- Settles O58: every effect keeps each sound record sound, and neither reports nor the clock touch a record. -/
theorem recordsStaySound : Obligations.RecordsStaySound := by
  intro s t hs hstep
  exact step_keeps (P := State.RecordsSound) (fun clock h => State.RecordsSound.of_sessions clock.sessions h) exec_keeps_recordsSound hs hstep

end Sys2Proof.Machine

/-! SUPPORT. Admin states and roles: what each command's effect does to them, session by session (R3, R4, R145 to R154), and
what follows for the agreement of leaders and followers. -/

namespace Sys2Proof.Machine

/-- A session's admin state and tether role. -/
def Session.bearing (x : Session) : Admin × TetherRole := (x.admin, x.role)

/-- Every session keeps its admin state and role. -/
def SameBearing (s t : State) : Prop := ∀ i, (t.session i).bearing = (s.session i).bearing

section
variable {s t u : State}

theorem SameBearing.refl (s : State) : SameBearing s s := fun _ => rfl

theorem SameBearing.trans (h : SameBearing s t) (k : SameBearing t u) : SameBearing s u := fun i => (k i).trans (h i)

theorem SameBearing.admin (h : SameBearing s t) (i : SessionIx) : (t.session i).admin = (s.session i).admin :=
  congrArg Prod.fst (h i)

theorem SameBearing.role (h : SameBearing s t) (i : SessionIx) : (t.session i).role = (s.session i).role :=
  congrArg Prod.snd (h i)

theorem Stands.bearing (h : Stands s t) : SameBearing s t := fun i =>
  Prod.ext (Session.admin_of_standing (h i)) (Session.role_of_standing (h i))

theorem SameBearing.ite {c : Prop} [Decidable c] (h : SameBearing s t) (k : SameBearing s u) :
    SameBearing s (if c then t else u) := by
  split <;> assumption

theorem SameBearing.foldl {α : Type} (f : State → α → State) (step : ∀ s a, SameBearing s (f s a)) (l : List α) (s : State) :
    SameBearing s (l.foldl f s) :=
  foldl_related SameBearing SameBearing.refl SameBearing.trans f step l s

theorem SameBearing.modSession {i : SessionIx} {f : Session → Session} (h : (f (s.session i)).bearing = (s.session i).bearing) :
    SameBearing s (s.modSession i f) := fun j => by
  rw [State.modSession_session]; split
  · next e => subst e; exact h
  · rfl

end

section
variable (x : Session) (now : Time)

theorem Session.bearing_setPlayback (p : Playback) : (x.setPlayback now p).bearing = x.bearing := by
  unfold Session.setPlayback; simp only []; split
  · rfl
  · split <;> rfl

theorem Session.bearing_report : (x.report now).bearing = x.bearing := by
  unfold Session.report; repeat' split
  all_goals rfl

theorem Session.bearing_refreshLimit (old : Option Nat) : (x.refreshLimit now old).bearing = x.bearing := by
  unfold Session.refreshLimit; repeat' split
  all_goals rfl

theorem Session.bearing_setEffective (e : Effective) : (x.setEffective now e).bearing = x.bearing := by
  obtain ⟨admin, role, -⟩ := x.setEffective_fields now e
  exact Prod.ext admin role

theorem Session.bearing_played (n : PlayNote) : (x.played now n).bearing = x.bearing := by
  unfold Session.played
  extract_lets a b c
  have ha : a.bearing = x.bearing := x.bearing_setPlayback now n.state
  have hb : b.bearing = x.bearing := by
    unfold b; split
    · exact ha
    · exact ha
  have hc : c.bearing = x.bearing := (b.bearing_report now).trans hb
  split
  · exact (c.bearing_setEffective now _).trans hc
  · exact hc
  · exact hc

theorem Session.bearing_takeCopy (p : Profile) : (x.takeCopy now p).bearing = x.bearing := by
  unfold Session.takeCopy; split
  · rfl
  · extract_lets q y
    split
    · rfl
    · exact y.bearing_refreshLimit now _

theorem Session.bearing_becomeFollower (l : SessionIx) (p : Profile) :
    (x.becomeFollower now l p).bearing = (x.admin, .follower l) :=
  Session.bearing_takeCopy { x with role := .follower l } now p

theorem Session.bearing_of_standing {x y : Session} (h : y.standing = x.standing) : y.bearing = x.bearing :=
  Prod.ext (Session.admin_of_standing h) (Session.role_of_standing h)

theorem Session.bearing_reprofiled (p : Profile) : (x.reprofiled now p).bearing = x.bearing := by
  unfold Session.reprofiled
  simp only []
  rw [Session.bearing_refreshLimit, Session.bearing_of_standing (Session.standing_reprofileDraw _ _ _)]
  exact x.bearing_setEffective now _

theorem Session.bearing_primed (p : Profile) :
    (Session.startDraw { x.setEffective now p.effective with admin := .primed, profile := some p } now).bearing =
      (.primed, x.role) := by
  rw [Session.bearing_of_standing (Session.standing_startDraw _ _)]
  exact Prod.ext rfl (congrArg Prod.snd (x.bearing_setEffective now p.effective) :)

end

section
variable (s : State)

theorem State.copyToFollowers_bearing (l : SessionIx) : SameBearing s (s.copyToFollowers l) := by
  refine .foldl _ (fun t e => ?_) _ s
  unfold State.copyProfile; split
  · exact .refl t
  · exact .modSession (Session.bearing_takeCopy _ _ _)

theorem State.reprofile_bearing (i : SessionIx) (p : Profile) : SameBearing s (s.reprofile i p) := by
  unfold State.reprofile
  extract_lets x y stored raised copied shared
  have hs : SameBearing s stored := .modSession (Session.bearing_reprofiled _ _ p)
  have hr : SameBearing s raised := .ite (hs.trans (stored.raiseOn_stands _ _).bearing) hs
  have hc : SameBearing s copied := (hr.trans (raised.lowerToAllowed_stands i).bearing).trans (State.copyToFollowers_bearing _ i)
  have hh : SameBearing s shared := .ite (hc.trans copied.recompute_stands.bearing) hc
  exact .ite (hh.trans shared.examine_stands.bearing) hh

theorem State.playReport_bearing (i : SessionIx) (n : PlayNote) : SameBearing s (s.playReport i n) := by
  unfold State.playReport
  extract_lets x y stored lowered shared
  have hs : SameBearing s stored := .modSession (Session.bearing_played _ _ n)
  have hl : SameBearing s lowered := .ite hs (hs.trans (stored.lowerToAllowed_stands _).bearing)
  have hh : SameBearing s shared := .ite hl (hl.trans lowered.recompute_stands.bearing)
  exact .ite (hh.trans shared.examine_stands.bearing) hh

theorem State.queueAsk_bearing (i : SessionIx) (n : AskNote) : SameBearing s (s.queueAsk i n) := by
  unfold State.queueAsk
  extract_lets flushed
  have h0 : SameBearing s (s.modSession i fun x => x.anchorAt s.time 0) := .modSession rfl
  have h1 := h0.trans (Stands.of_sessions (State.releaseSlots_sessions _ i)).bearing
  have hf : SameBearing s flushed := .ite (h1.trans (State.tellFlush_stands _ i).bearing) (.refl s)
  exact hf.trans (State.examine_stands_of (by rfl)).bearing

theorem State.completeFetch_bearing (x : Slot) : SameBearing s (s.completeFetch x) := by
  unfold State.completeFetch
  extract_lets i credited sampled counted cleared
  have hc : SameBearing s credited := .modSession rfl
  have hs : SameBearing s sampled := hc.trans (credited.takeSample_stands _ _).bearing
  have hcounted : Stands sampled counted := .modSession fun _ => rfl
  have hcleared : Stands counted cleared := .ite (.refl _) (.modSession fun _ => rfl)
  exact ((hs.trans hcounted.bearing).trans hcleared.bearing).trans (cleared.tellCompletion_stands _ _).bearing

theorem State.finishSlot_bearing (k : SlotIx) (x : Slot) (o : FetchOutcome) : SameBearing s (s.finishSlot k x o) := by
  have freed : SameBearing s (s.setSlot k none) := (Stands.of_sessions rfl).bearing
  unfold State.finishSlot; simp only []; split
  · exact (freed.trans (State.completeFetch_bearing _ _)).trans (State.examine_stands _).bearing
  · exact freed.trans (State.examine_stands _).bearing

theorem State.blindSession_bearing (i : SessionIx) : SameBearing s (s.blindSession i) := by
  have blind : SameBearing s (s.modSession i Session.blinded) := .modSession rfl
  unfold State.blindSession; simp only []; split
  · exact blind.trans (State.raiseOn_stands _ _ _).bearing
  · exact blind
  · exact blind

end

/-! Forming and releasing, session by session (R145, R147, R152 to R154). -/

theorem TetherRole.leave_leader (fs : List FollowerEntry) (f : SessionIx) : (TetherRole.leader fs).leave f =
    if fs.filter (fun e => decide (e.index ≠ f)) = [] then .independent
    else .leader (fs.filter fun e => decide (e.index ≠ f)) := by
  unfold TetherRole.leave; simp only []
  cases fs.filter fun e => decide (e.index ≠ f) <;> simp

section
variable (s : State)

theorem State.leaveLeader_session (l f j : SessionIx) : (s.leaveLeader l f).session j =
    if j = l then { s.session l with role := (s.session l).role.leave f } else s.session j := by
  unfold State.leaveLeader
  rw [State.modSession_session]; split
  · next e => rw [e]
  · rfl

theorem State.release_session {l f : SessionIx} (h : f ≠ l) (j : SessionIx) : (s.release l f).session j =
    if j = f then (s.session f).released s.time
    else if j = l then { s.session l with role := (s.session l).role.leave f } else s.session j := by
  unfold State.release
  rw [State.modSession_session, State.leaveLeader_session]
  split
  · next e => subst e; rw [if_neg h]
  · rfl

/-- Releasing distinct followers one after the other: each is released once, and the leader's role loses each of them. -/
theorem State.foldl_release_session (i : SessionIx) (es : List FollowerEntry) (distinct : (es.map FollowerEntry.index).Nodup)
    (others : ∀ e ∈ es, e.index ≠ i) (s : State) (j : SessionIx) :
    (es.foldl (fun t e => t.release i e.index) s).session j =
      if j = i then { s.session i with role := es.foldl (fun r e => r.leave e.index) (s.session i).role }
      else if ∃ e ∈ es, e.index = j then (s.session j).released s.time else s.session j := by
  induction es generalizing s with
  | nil =>
    split
    · next e => rw [e]; rfl
    · simp
  | cons e es ih =>
    have he : e.index ≠ i := others e List.mem_cons_self
    obtain ⟨fresh, rest⟩ := List.nodup_cons.mp distinct
    have time : (s.release i e.index).time = s.time := rfl
    rw [List.foldl_cons, ih rest (fun g hg => others g (List.mem_cons_of_mem _ hg)), time]
    simp only [s.release_session he]
    by_cases hj : j = i
    · subst hj; simp [he.symm]
    by_cases hf : j = e.index
    · subst hf
      have unlisted : ¬ ∃ g ∈ es, g.index = e.index := fun ⟨g, hg, k⟩ => fresh (k ▸ List.mem_map_of_mem hg)
      simp [hj, unlisted]
    · simp [hj, hf, Ne.symm hf]

/-- A leader whose followers are distinct and not itself releases each of them. -/
theorem State.releaseAll_session {i : SessionIx} {fs : List FollowerEntry} (role : (s.session i).role = .leader fs)
    (distinct : (fs.map FollowerEntry.index).Nodup) (others : ∀ e ∈ fs, e.index ≠ i) {j : SessionIx} (hj : j ≠ i) :
    (s.releaseAll i).session j =
      if ∃ e ∈ fs, e.index = j then (s.session j).released s.time else s.session j := by
  have followers : (s.session i).followers = fs := by unfold Session.followers; rw [role]
  unfold State.releaseAll
  rw [followers, s.foldl_release_session i fs distinct others, if_neg hj]

/-- Releasing changes no admin state. -/
theorem State.release_admin (l f j : SessionIx) : ((s.release l f).session j).admin = (s.session j).admin := by
  unfold State.release
  rw [State.modSession_session, State.leaveLeader_session]
  split
  · rw [Session.released_eq]; split
    · next e => rw [e]
    · rfl
  · split
    · next e => rw [e]
    · rfl

theorem State.dissolve_admin (i j : SessionIx) : ((s.dissolve i).session j).admin = (s.session j).admin := by
  unfold State.dissolve; split
  · rfl
  · unfold State.releaseAll
    apply foldl_related (fun u v => (v.session j).admin = (u.session j).admin) (fun _ => rfl) (fun h k => k.trans h)
    exact fun t e => t.release_admin i e.index j
  · rw [State.leaveLeader_session]; split
    · next e => rw [e]
    · rfl

/-- A reset leaves its session independent in the admin state it gives, and the others as the dissolved tether does. -/
theorem State.resetSession_bearing (i : SessionIx) (a : Admin) (j : SessionIx) :
    ((s.resetSession i a).session j).bearing = if j = i then (a, .independent) else ((s.dissolve i).session j).bearing := by
  unfold State.resetSession
  extract_lets x emptied cleared shared
  have he : SameBearing (s.dissolve i) emptied := (Stands.of_sessions (State.releaseSlots_sessions _ i)).bearing
  have hs : SameBearing cleared shared := .ite cleared.recompute_stands.bearing (.refl _)
  have ht : SameBearing cleared (if (s.slotsOf i).isEmpty then shared else shared.examine) :=
    .ite hs (hs.trans shared.examine_stands.bearing)
  rw [ht j, State.modSession_session]
  split
  · rfl
  · exact he j

theorem State.bind_bearing {l f : SessionIx} {m : Option (List Nat)} (profiled : (s.session l).profile ≠ none)
    (h : l ≠ f) (j : SessionIx) : ((s.bind l f m).session j).bearing =
      if j = f then ((s.session f).admin, .follower l)
      else if j = l then ((s.session l).admin, (s.session l).role.join ((s.session f).followerEntry f m))
      else (s.session j).bearing := by
  unfold State.bind
  extract_lets entry led joined
  rw [(joined.deriveFollower_stands l f).bearing j]
  unfold joined
  split
  · next none => exact absurd none profiled
  · rw [State.modSession_session]
    split
    · next e =>
      subst e
      rw [Session.bearing_becomeFollower, State.modSession_session_ne _ _ _ _ h.symm]
    · next hj =>
      rw [State.modSession_session]; split
      · next e => subst e; rfl
      · rfl

end

/-! Admin states. -/

theorem State.publish_admin (s : State) (i : SessionIx) (l : Ladder) (j : SessionIx) :
    ((s.publish i l).session j).admin = if j = i then .streaming else (s.session j).admin := by
  unfold State.publish
  extract_lets x stored carried
  have hc : SameBearing stored carried := .ite (stored.carryRungs_stands _ _).bearing (stored.firstRung_stands _).bearing
  have hh : SameBearing carried (carried.modSession i fun y => y.restartUpHold s.time) :=
    (Stands.modSession fun y => y.standing_restartUpHold _).bearing
  rw [((hc.trans hh).trans (State.recompute_stands _).bearing).admin j]
  have published : ((s.modSession i fun y => { y with
      published := some l, generation := y.generation + 1, admin := .streaming }).session j).admin =
      if j = i then .streaming else (s.session j).admin := by
    rw [State.modSession_session]; split <;> rfl
  unfold stored State.reformMap
  split
  · exact published
  · exact published
  · rw [State.modSession_session]; split <;> exact published

theorem State.bind_admin (s : State) (l f : SessionIx) (m : Option (List Nat)) (j : SessionIx) :
    ((s.bind l f m).session j).admin = (s.session j).admin := by
  unfold State.bind
  extract_lets entry led joined
  rw [(joined.deriveFollower_stands l f).bearing.admin j]
  have hl : (led.session j).admin = (s.session j).admin := by
    rw [State.modSession_session]; split <;> rfl
  unfold joined; split
  · exact hl
  · rw [State.modSession_session]; split
    · exact (congrArg Prod.fst (Session.bearing_takeCopy { led.session j with role := .follower l } _ _) :).trans hl
    · exact hl

theorem State.tether_admin (s : State) (l f : SessionIx) (m : Option (List Nat)) (j : SessionIx) :
    ((s.tether l f m).session j).admin = (s.session j).admin := by
  unfold State.tether
  extract_lets t
  have ht : (t.session j).admin = (s.session j).admin :=
    ((State.recompute_stands _).bearing.admin j).trans (s.bind_admin l f m j)
  split
  · exact ht
  · exact (t.examine_stands.bearing.admin j).trans ht

theorem Effect.admin {s e : State} {c : Instr} (he : Effect s c e) (i : SessionIx) :
    (e.session i).admin = (s.session i).admin ∨
    ((s.session i).admin = .vacant ∧ (e.session i).admin = .unprofiled) ∨
    ((s.session i).admin = .unprofiled ∧ (e.session i).admin = .primed) ∨
    ((s.session i).admin = .primed ∧ (e.session i).admin = .streaming) ∨
    (c = .sessionReset (some i.val) ∧ (s.session i).admin ≠ .vacant ∧ (e.session i).admin = .unprofiled) ∨
    c = .closeSession (some i.val) ∨ c = .powerOn ∨ c = .resetInput ∨ c = .deviceResetTaken := by
  have single : ∀ {j : SessionIx} {f : Session → Session}, j ≠ i → ((s.modSession j f).session i).admin = (s.session i).admin :=
    fun h => by rw [State.modSession_session_ne _ _ _ _ h.symm]
  cases hc : Instr.reshapes c with
  | false => exact .inl ((he.stands hc).bearing.admin i)
  | true =>
    cases he with
    | powerOn | resetInput | deviceResetTaken => simp
    | openSession j vacant =>
      by_cases h : j = i
      · subst h; simp [vacant, Session.starting]
      · exact .inl (single h)
    | sessionReset j opened =>
      have k := congrArg Prod.fst (s.resetSession_bearing j .unprofiled i)
      by_cases h : j = i
      · subst h; simp_all [Session.bearing]
      · rw [if_neg (Ne.symm h)] at k; exact .inl (k.trans (s.dissolve_admin j i))
    | closeSession j opened =>
      have k := congrArg Prod.fst ((s.removeFlows j).resetSession_bearing j .vacant i)
      by_cases h : j = i
      · subst h; simp
      · rw [if_neg (Ne.symm h)] at k; exact .inl (k.trans ((s.removeFlows j).dissolve_admin j i))
    | prime n j unprofiled _ =>
      have k := (State.examine_stands (s.modSession j fun x =>
        Session.startDraw { x.setEffective s.time n.build.effective with admin := .primed, profile := some n.build } s.time)
        ).bearing.admin i
      by_cases h : j = i
      · subst h
        rw [State.modSession_session_self] at k
        exact .inr (.inr (.inl ⟨unprofiled, k.trans (congrArg Prod.fst (Session.bearing_primed _ _ _) :)⟩))
      · exact .inl (k.trans (single h))
    | reprofile n j _ _ => exact .inl ((s.reprofile_bearing j _).admin i)
    | stage n j _ => exact .inl ((SameBearing.modSession rfl).admin i)
    | publish n j l profiled _ =>
      rw [State.publish_admin]
      by_cases h : i = j
      · subst h; rcases profiled with h | h <;> simp [h]
      · simp [h]
    | tether n l f _ => exact .inl (s.tether_admin l f _ i)
    | untether j l _ _ => exact .inl (((State.recompute_stands _).bearing.admin i).trans (s.release_admin l j i))
    | askFetch n j _ _ => exact .inl ((s.queueAsk_bearing j n).admin i)
    | doneFetch n j k x _ _ => exact .inl ((s.finishSlot_bearing k x _).admin i)
    | doneLate n j tag => exact .inl ((s.lateReport_stands j tag).bearing.admin i)
    | play n j _ => exact .inl ((s.playReport_bearing j n).admin i)
    | emptyPoint j => exact .inl ((SameBearing.modSession rfl).admin i)
    | freshness j => exact .inl ((s.blindSession_bearing j).admin i)
    | _ => cases hc

/-- Settles O23: no effect but its own SESSION RESET or CLOSE and the resets of the part takes a session out of STREAMING. -/
theorem streamingEndsOnlyByReset : Obligations.StreamingEndsOnlyByReset := by
  intro c s t i h streaming
  rcases exec_acts h with k | ⟨e, he, k⟩
  · exact .inl (((Stands.of_apart k.apart).bearing.admin i).trans streaming)
  · have hadmin := (Stands.of_apart k.apart).bearing.admin i
    rcases he.admin i with h | ⟨h, -⟩ | ⟨h, -⟩ | ⟨h, -⟩ | ⟨h, -⟩ | h | h | h | h
    · exact .inl (hadmin.trans (h.trans streaming))
    · rw [streaming] at h; cases h
    · rw [streaming] at h; cases h
    · rw [streaming] at h; cases h
    all_goals simp [h]

end Sys2Proof.Machine

/-! SUPPORT. Leaders and followers keep naming each other (R145): the agreement of roles under each change that the notes make
to them, and under every command. -/

namespace Sys2Proof.Machine

theorem Session.admin_of_bearing {x : Session} {a : Admin} {r : TetherRole} (h : x.bearing = (a, r)) : x.admin = a :=
  congrArg Prod.fst h

theorem Session.role_of_bearing {x : Session} {a : Admin} {r : TetherRole} (h : x.bearing = (a, r)) : x.role = r :=
  congrArg Prod.snd h

section
variable {s t : State}

/-- The agreement of roles speaks of roles, and of the admin states of those in a tether. -/
theorem State.TethersSound.of_roles (h : s.TethersSound) (roles : ∀ i, (t.session i).role = (s.session i).role)
    (admins : ∀ i, (s.session i).role ≠ .independent → (s.session i).admin = .primed ∨ (s.session i).admin = .streaming →
      (t.session i).admin = .primed ∨ (t.session i).admin = .streaming) : t.TethersSound where
  listed l fs hl e he := by rw [roles] at hl ⊢; exact h.listed l fs hl e he
  leads f l hf := by rw [roles] at hf ⊢; exact h.leads f l hf
  size l fs hl := by rw [roles] at hl; exact h.size l fs hl
  members i hi := by rw [roles] at hi; exact admins i hi (h.members i hi)
  entries l fs hl := by rw [roles] at hl; exact h.entries l fs hl

theorem State.TethersSound.of_bearing (h : s.TethersSound) (k : SameBearing s t) : t.TethersSound :=
  h.of_roles k.role fun i _ hi => by rwa [k.admin]

/-- No session follows itself. -/
theorem State.TethersSound.leader_ne (h : s.TethersSound) {f l : SessionIx} (hf : (s.session f).role = .follower l) : l ≠ f := by
  rintro rfl
  obtain ⟨fs, hl, -⟩ := h.leads _ _ hf
  rw [hf] at hl; cases hl

/-- A session whose role is none of the list's, and whose admin state is what it likes, stands outside every tether. -/
theorem State.TethersSound.set_independent (h : s.TethersSound) {i : SessionIx} (free : (s.session i).role = .independent)
    (role : (t.session i).role = .independent) (others : ∀ j, j ≠ i → (t.session j).bearing = (s.session j).bearing) :
    t.TethersSound := by
  have roles : ∀ j, (t.session j).role = (s.session j).role := fun j => by
    by_cases hj : j = i
    · subst hj; rw [role, free]
    · exact Session.role_of_bearing (others j hj)
  refine h.of_roles roles fun j tethered hj => ?_
  have : j ≠ i := fun e => tethered (e ▸ free)
  rw [Session.admin_of_bearing (others j this)]; exact hj

/-- A follower that leaves its leader's list leaves the others in agreement; a leader of none leads no more (R145, R152). -/
theorem State.TethersSound.leave (h : s.TethersSound) {i l : SessionIx} (follows : (s.session i).role = .follower l)
    (role : (t.session i).role = .independent)
    (leader : (t.session l).bearing = ((s.session l).admin, (s.session l).role.leave i))
    (others : ∀ j, j ≠ i → j ≠ l → (t.session j).bearing = (s.session j).bearing) : t.TethersSound := by
  obtain ⟨fs, leads, -⟩ := h.leads i l follows
  obtain ⟨-, atMost, distinct⟩ := h.size l fs leads
  have hne : l ≠ i := h.leader_ne follows
  have left : (t.session l).role = if fs.filter (fun e => decide (e.index ≠ i)) = [] then .independent
      else .leader (fs.filter fun e => decide (e.index ≠ i)) := by
    rw [Session.role_of_bearing leader, leads, TetherRole.leave_leader]
  have same : ∀ j, j ≠ i → j ≠ l → (t.session j).role = (s.session j).role := fun j hi hl =>
    Session.role_of_bearing (others j hi hl)
  -- a leader behind the change is another leader, or the one left with its other followers
  have leaders : ∀ m gs, (t.session m).role = .leader gs → (m ≠ i ∧ m ≠ l ∧ (s.session m).role = .leader gs) ∨
      (m = l ∧ gs = fs.filter (fun e => decide (e.index ≠ i)) ∧ gs ≠ []) := fun m gs hm => by
    by_cases hi : m = i
    · subst hi; rw [role] at hm; cases hm
    by_cases hl : m = l
    · subst hl; rw [left] at hm; split at hm
      · cases hm
      · next hne => cases hm; exact .inr ⟨rfl, rfl, hne⟩
    · exact .inl ⟨hi, hl, (same m hi hl).symm.trans hm⟩
  refine ⟨fun m gs hm e he => ?_, fun f m hf => ?_, fun m gs hm => ?_, fun j hj => ?_, fun m gs hm e he => ?_⟩
  · rcases leaders m gs hm with ⟨hi, hl, hs⟩ | ⟨rfl, rfl, -⟩
    · have he := h.listed m gs hs e he
      have h1 : e.index ≠ i := fun k => hl (by rw [k, follows] at he; exact (TetherRole.follower.inj he).symm)
      have h2 : e.index ≠ l := fun k => by rw [k, leads] at he; cases he
      rw [same _ h1 h2]; exact he
    · obtain ⟨he, h1⟩ := List.mem_filter.mp he
      have he := h.listed m fs leads e he
      have h2 : e.index ≠ m := fun k => by rw [k, leads] at he; cases he
      rw [same _ (by simpa using h1) h2]; exact he
  · have hi : f ≠ i := fun k => by rw [k, role] at hf; cases hf
    have hl : f ≠ l := fun k => by rw [k, left] at hf; split at hf <;> cases hf
    rw [same f hi hl] at hf
    obtain ⟨gs, hm, e, he, rfl⟩ := h.leads f m hf
    by_cases hml : m = l
    · subst hml
      obtain rfl : gs = fs := TetherRole.leader.inj (hm.symm.trans leads)
      have kept : e ∈ gs.filter fun e => decide (e.index ≠ i) := List.mem_filter.mpr ⟨he, by simpa using hi⟩
      exact ⟨_, by rw [left, if_neg (List.ne_nil_of_mem kept)], e, kept, rfl⟩
    · have hmi : m ≠ i := fun k => by rw [k, follows] at hm; cases hm
      exact ⟨gs, by rw [same m hmi hml]; exact hm, e, he, rfl⟩
  · rcases leaders m gs hm with ⟨-, -, hs⟩ | ⟨rfl, rfl, nonempty⟩
    · exact h.size m gs hs
    · exact ⟨List.length_pos_iff.mpr nonempty, (List.length_filter_le _ _).trans atMost,
        distinct.sublist (List.filter_sublist.map _)⟩
  · have hi : j ≠ i := fun k => hj (k ▸ role)
    by_cases hl : j = l
    · subst hl
      rw [Session.admin_of_bearing leader]
      exact h.members j (by rw [leads]; simp)
    · rw [same j hi hl] at hj
      rw [Session.admin_of_bearing (others j hi hl)]
      exact h.members j hj
  · rcases leaders m gs hm with ⟨-, -, hs⟩ | ⟨rfl, rfl, -⟩
    · exact h.entries m gs hs e he
    · exact h.entries m fs leads e (List.mem_of_mem_filter he)

/-- A leader that leads no more, with all its followers released, leaves the other tethers in agreement (R153). -/
theorem State.TethersSound.disband (h : s.TethersSound) {i : SessionIx} {fs : List FollowerEntry}
    (leads : (s.session i).role = .leader fs) (role : (t.session i).role = .independent)
    (released : ∀ e ∈ fs, (t.session e.index).role = .independent)
    (others : ∀ j, j ≠ i → (∀ e ∈ fs, e.index ≠ j) → (t.session j).bearing = (s.session j).bearing) : t.TethersSound := by
  have same : ∀ j, (t.session j).role ≠ .independent →
      j ≠ i ∧ (∀ e ∈ fs, e.index ≠ j) ∧ (t.session j).bearing = (s.session j).bearing := fun j hj => by
    have hi : j ≠ i := fun k => hj (k ▸ role)
    have hf : ∀ e ∈ fs, e.index ≠ j := fun e he k => hj (k ▸ released e he)
    exact ⟨hi, hf, others j hi hf⟩
  have roles : ∀ j, (t.session j).role ≠ .independent → (t.session j).role = (s.session j).role := fun j hj =>
    Session.role_of_bearing (same j hj).2.2
  have leaders : ∀ m gs, (t.session m).role = .leader gs → m ≠ i ∧ (s.session m).role = .leader gs := fun m gs hm => by
    have hj : (t.session m).role ≠ .independent := by rw [hm]; simp
    exact ⟨(same m hj).1, (roles m hj).symm.trans hm⟩
  refine ⟨fun m gs hm e he => ?_, fun f m hf => ?_, fun m gs hm => ?_, fun j hj => ?_, fun m gs hm => ?_⟩
  · obtain ⟨hi, hs⟩ := leaders m gs hm
    have he := h.listed m gs hs e he
    have h1 : e.index ≠ i := fun k => by rw [k, leads] at he; cases he
    have h2 : ∀ g ∈ fs, g.index ≠ e.index := fun g hg k => by
      have hg := h.listed i fs leads g hg
      rw [k, he] at hg; exact hi (TetherRole.follower.inj hg)
    rw [Session.role_of_bearing (others _ h1 h2)]; exact he
  · have hs := (roles f (by rw [hf]; simp)).symm.trans hf
    obtain ⟨gs, hm, e, he, k⟩ := h.leads f m hs
    have hi : m ≠ i := fun k' => by
      subst k'
      obtain rfl : gs = fs := TetherRole.leader.inj (hm.symm.trans leads)
      have := released e he
      rw [k, hf] at this; cases this
    have h2 : ∀ g ∈ fs, g.index ≠ m := fun g hg k' => by
      have hg := h.listed i fs leads g hg
      rw [k', hm] at hg; cases hg
    exact ⟨gs, (Session.role_of_bearing (others m hi h2)).trans hm, e, he, k⟩
  · exact h.size m gs (leaders m gs hm).2
  · rw [Session.admin_of_bearing ((same j hj).2.2)]
    exact h.members j (by rw [← roles j hj]; exact hj)
  · exact h.entries m gs (leaders m gs hm).2

theorem mem_defaultMap_le (count : Nat) : ∀ k ∈ (defaultMap count).toList, k ≤ 11 := fun k hk => by
  obtain ⟨j, hj, rfl⟩ := Vector.mem_iff_getElem.mp (Vector.mem_toList_iff.mp hk)
  simp only [defaultMap, Vector.getElem_ofFn]; omega

theorem mem_givenMap_le (entries : List Nat) : ∀ k ∈ (givenMap entries).toList, k ≤ 11 := fun k hk => by
  obtain ⟨j, hj, rfl⟩ := Vector.mem_iff_getElem.mp (Vector.mem_toList_iff.mp hk)
  simp only [givenMap, Vector.getElem_ofFn]; omega

/-- The entry a TETHER forms names its follower, and its map holds rung indices (R149). -/
theorem Session.followerEntry_index (x : Session) (f : SessionIx) (m : Option (List Nat)) : (x.followerEntry f m).index = f := by
  unfold Session.followerEntry; split <;> rfl

theorem Session.followerEntry_map_le (x : Session) (f : SessionIx) (m : Option (List Nat)) :
    ∀ k ∈ (x.followerEntry f m).map.toList, k ≤ 11 := by
  unfold Session.followerEntry; split
  · exact mem_defaultMap_le _
  · exact mem_givenMap_le _

/-- The checks that an accepted TETHER has passed (R146). -/
theorem State.tetherFault_eq_none {l f : SessionIx} (h : s.tetherFault l f = none) :
    ((s.session l).isTetherable = true ∧ (s.session f).isTetherable = true) ∧ l ≠ f ∧ (s.session l).follows = false ∧
      (s.session f).role = .independent ∧ (s.session l).followers.length < 3 := by
  unfold State.tetherFault at h
  repeat' split at h
  all_goals cases h
  simp_all

theorem Session.isTetherable_iff (x : Session) : x.isTetherable = true ↔ x.admin = .primed ∨ x.admin = .streaming := by
  unfold Session.isTetherable; cases x.admin <;> simp

/-- A role that follows no one gains a follower: it leads its old ones and the new one. -/
theorem Session.join_eq (x : Session) (free : x.follows = false) (e : FollowerEntry) :
    x.role.join e = .leader (x.followers ++ [e]) := by
  unfold Session.follows at free
  unfold TetherRole.join Session.followers
  cases hr : x.role <;> simp_all

/-- A session that follows no one leads exactly the followers it lists. -/
theorem Session.role_eq_leader {x : Session} {e : FollowerEntry} (h : e ∈ x.followers) : x.role = .leader x.followers := by
  unfold Session.followers at h ⊢
  cases hr : x.role <;> simp_all

/-- An accepted TETHER keeps the roles in agreement: the follower joins the end of the list and names its leader (R147). -/
theorem State.TethersSound.join (h : s.TethersSound) {l f : SessionIx} {m : Option (List Nat)} (passes : s.tetherFault l f = none)
    (bearing : ∀ j, (t.session j).bearing = if j = f then ((s.session f).admin, .follower l)
      else if j = l then ((s.session l).admin, (s.session l).role.join ((s.session f).followerEntry f m))
      else (s.session j).bearing) : t.TethersSound := by
  obtain ⟨⟨tetherableL, tetherableF⟩, hne, free, independent, room⟩ := State.tetherFault_eq_none passes
  have atF : (t.session f).role = .follower l := by have := bearing f; rw [if_pos rfl] at this; exact Session.role_of_bearing this
  have atL : (t.session l).role = .leader ((s.session l).followers ++ [(s.session f).followerEntry f m]) := by
    have k := bearing l
    rw [if_neg hne, if_pos rfl, Session.join_eq _ free] at k
    exact Session.role_of_bearing k
  have other : ∀ j, j ≠ f → j ≠ l → (t.session j).bearing = (s.session j).bearing := fun j hf hl => by
    rw [bearing, if_neg hf, if_neg hl]
  have same : ∀ j, j ≠ f → j ≠ l → (t.session j).role = (s.session j).role := fun j hf hl => Session.role_of_bearing (other j hf hl)
  -- no list named the new follower before
  have unlisted : ∀ k gs, (s.session k).role = .leader gs → ∀ e ∈ gs, e.index ≠ f := fun k gs hk e he c => by
    have he := h.listed k gs hk e he
    rw [c, independent] at he; cases he
  have unled : ∀ k gs, (s.session k).role = .leader gs → ∀ e ∈ gs, e.index ≠ l := fun k gs hk e he c => by
    have he := h.listed k gs hk e he
    rw [c] at he; simp [Session.follows, he] at free
  have leaders : ∀ k gs, (t.session k).role = .leader gs → (k ≠ f ∧ k ≠ l ∧ (s.session k).role = .leader gs) ∨
      (k = l ∧ gs = (s.session l).followers ++ [(s.session f).followerEntry f m]) := fun k gs hk => by
    by_cases hf : k = f
    · subst hf; rw [atF] at hk; cases hk
    by_cases hl : k = l
    · subst hl; rw [atL] at hk; exact .inr ⟨rfl, (TetherRole.leader.inj hk).symm⟩
    · exact .inl ⟨hf, hl, (same k hf hl).symm.trans hk⟩
  refine ⟨fun k gs hk e he => ?_, fun j k hj => ?_, fun k gs hk => ?_, fun j hj => ?_, fun k gs hk e he => ?_⟩
  · rcases leaders k gs hk with ⟨-, -, hs⟩ | ⟨rfl, rfl⟩
    · rw [same _ (unlisted k gs hs e he) (unled k gs hs e he)]; exact h.listed k gs hs e he
    · rcases List.mem_append.mp he with he | he
      · have hs := Session.role_eq_leader he
        rw [same _ (unlisted k _ hs e he) (unled k _ hs e he)]; exact h.listed k _ hs e he
      · rw [List.mem_singleton.mp he, Session.followerEntry_index]; exact atF
  · by_cases hf : j = f
    · subst hf
      obtain rfl : l = k := TetherRole.follower.inj (atF.symm.trans hj)
      exact ⟨_, atL, _, List.mem_append_right _ List.mem_cons_self, Session.followerEntry_index _ _ _⟩
    have hl : j ≠ l := fun c => by rw [c, atL] at hj; cases hj
    obtain ⟨gs, hk, e, he, rfl⟩ := h.leads j k ((same j hf hl).symm.trans hj)
    by_cases hkl : k = l
    · subst hkl
      have : (s.session k).followers = gs := by simp [Session.followers, hk]
      exact ⟨_, atL, e, List.mem_append_left _ (this ▸ he), rfl⟩
    · have hkf : k ≠ f := fun c => by rw [c, independent] at hk; cases hk
      exact ⟨gs, (same k hkf hkl).trans hk, e, he, rfl⟩
  · rcases leaders k gs hk with ⟨-, -, hs⟩ | ⟨rfl, rfl⟩
    · exact h.size k gs hs
    · refine ⟨by simp, by simp only [List.length_append, List.length_singleton]; omega, ?_⟩
      rw [List.map_append, List.map_singleton, Session.followerEntry_index]
      refine List.Nodup.append ?_ (List.nodup_singleton f) ?_
      · cases hfs : (s.session k).followers with
        | nil => exact List.nodup_nil
        | cons e es =>
          have hs := Session.role_eq_leader (x := s.session k) (e := e) (hfs ▸ List.mem_cons_self)
          exact hfs ▸ (h.size k _ hs).2.2
      · intro a ha hb
        obtain ⟨e, he, rfl⟩ := List.mem_map.mp ha
        exact unlisted k _ (Session.role_eq_leader he) e he (List.mem_singleton.mp hb)
  · by_cases hf : j = f
    · subst hf
      have := bearing j
      rw [if_pos rfl] at this
      rw [Session.admin_of_bearing this]
      exact (Session.isTetherable_iff _).mp tetherableF
    by_cases hl : j = l
    · subst hl
      have := bearing j
      rw [if_neg hf, if_pos rfl] at this
      rw [Session.admin_of_bearing this]
      exact (Session.isTetherable_iff _).mp tetherableL
    · rw [same j hf hl] at hj
      rw [Session.admin_of_bearing (other j hf hl)]
      exact h.members j hj
  · rcases leaders k gs hk with ⟨-, -, hs⟩ | ⟨rfl, rfl⟩
    · exact h.entries k gs hs e he
    · rcases List.mem_append.mp he with he | he
      · exact h.entries k _ (Session.role_eq_leader he) e he
      · rw [List.mem_singleton.mp he]; exact Session.followerEntry_map_le _ _ _

/-- The default maps formed again at a follower's publish keep the roles in agreement (R149). -/
theorem State.TethersSound.reform (h : s.TethersSound) {l i : SessionIx} {count : Nat}
    (leader : (t.session l).bearing = ((s.session l).admin, (s.session l).role.reform i count))
    (others : ∀ j, j ≠ l → (t.session j).bearing = (s.session j).bearing) : t.TethersSound := by
  cases hr : (s.session l).role with
  | independent =>
    rw [hr] at leader
    exact h.set_independent hr (Session.role_of_bearing leader) others
  | follower m =>
    rw [hr] at leader
    refine h.of_bearing fun j => ?_
    by_cases hj : j = l
    · subst hj; rw [leader]; exact Prod.ext rfl hr.symm
    · exact others j hj
  | leader fs =>
    rw [hr] at leader
    have atL : (t.session l).role = .leader (fs.map fun e =>
      if e.index = i && e.isDefault then { e with map := defaultMap count } else e) := Session.role_of_bearing leader
    have same : ∀ j, j ≠ l → (t.session j).role = (s.session j).role := fun j hj => Session.role_of_bearing (others j hj)
    have follower_ne : ∀ {j k : SessionIx}, (s.session j).role = .follower k → j ≠ l := fun hj c => by
      rw [c, hr] at hj; cases hj
    have leaders : ∀ k gs, (t.session k).role = .leader gs → ∃ hs, (s.session k).role = .leader hs ∧
        gs.map FollowerEntry.index = hs.map FollowerEntry.index ∧ gs.length = hs.length ∧
        (∀ e ∈ gs, ∃ g ∈ hs, g.index = e.index) ∧ ∀ e ∈ gs, ∀ v ∈ e.map.toList, v ≤ 11 := fun k gs hk => by
      by_cases hkl : k = l
      · subst hkl
        rw [atL] at hk
        obtain rfl := TetherRole.leader.inj hk
        refine ⟨fs, hr, ?_, by simp, fun e he => ?_, fun e he => ?_⟩
        · rw [List.map_map]
          refine List.map_congr_left fun e _ => ?_
          simp only [Function.comp]; split <;> rfl
        · obtain ⟨g, hg, rfl⟩ := List.mem_map.mp he
          exact ⟨g, hg, by split <;> rfl⟩
        · obtain ⟨g, hg, rfl⟩ := List.mem_map.mp he
          split
          · exact mem_defaultMap_le _
          · exact h.entries k fs hr g hg
      · have hs := (same k hkl).symm.trans hk
        exact ⟨gs, hs, rfl, rfl, fun e he => ⟨e, he, rfl⟩, h.entries k gs hs⟩
    refine ⟨fun k gs hk e he => ?_, fun f k hf => ?_, fun k gs hk => ?_, fun j hj => ?_, fun k gs hk => ?_⟩
    · obtain ⟨hs, hl, -, -, listed, -⟩ := leaders k gs hk
      obtain ⟨g, hg, hi⟩ := listed e he
      have hg := h.listed k hs hl g hg
      rw [hi] at hg
      rw [same _ (follower_ne hg)]; exact hg
    · have hfl : f ≠ l := fun c => by rw [c, atL] at hf; cases hf
      obtain ⟨gs, hk, e, he, rfl⟩ := h.leads f k ((same f hfl).symm.trans hf)
      by_cases hkl : k = l
      · subst hkl
        obtain rfl : gs = fs := TetherRole.leader.inj (hk.symm.trans hr)
        exact ⟨_, atL, _, List.mem_map_of_mem he, by split <;> rfl⟩
      · exact ⟨gs, (same k hkl).trans hk, e, he, rfl⟩
    · obtain ⟨hs, hl, indices, len, -⟩ := leaders k gs hk
      rw [indices, len]; exact h.size k hs hl
    · by_cases hjl : j = l
      · subst hjl
        rw [Session.admin_of_bearing leader]
        exact h.members j (by rw [hr]; simp)
      · rw [same j hjl] at hj
        rw [Session.admin_of_bearing (others j hjl)]
        exact h.members j hj
    · obtain ⟨-, -, -, -, -, le⟩ := leaders k gs hk
      exact le

/-- Resetting or closing a session dissolves its tether and leaves the others in agreement (R153, R154). -/
theorem State.TethersSound.resetSession (h : s.TethersSound) (i : SessionIx) (a : Admin) : (s.resetSession i a).TethersSound := by
  have bearing := s.resetSession_bearing i a
  have role : ((s.resetSession i a).session i).role = .independent := by
    have := bearing i; rw [if_pos rfl] at this; exact Session.role_of_bearing this
  have others : ∀ j, j ≠ i → ((s.resetSession i a).session j).bearing = ((s.dissolve i).session j).bearing := fun j hj => by
    rw [bearing, if_neg hj]
  cases hr : (s.session i).role with
  | independent =>
    have kept : s.dissolve i = s := by unfold State.dissolve; rw [hr]
    rw [kept] at others
    exact h.set_independent hr role others
  | follower l =>
    have left : s.dissolve i = s.leaveLeader l i := by unfold State.dissolve; rw [hr]
    rw [left] at others
    have hne := h.leader_ne hr
    refine h.leave hr role ?_ fun j hi hl => ?_
    · rw [others l hne, State.leaveLeader_session, if_pos rfl]; rfl
    · rw [others j hi, State.leaveLeader_session, if_neg hl]
  | leader fs =>
    have released : s.dissolve i = s.releaseAll i := by unfold State.dissolve; rw [hr]
    rw [released] at others
    have follower_ne : ∀ e ∈ fs, e.index ≠ i := fun e he c => by
      have := h.listed i fs hr e he; rw [c, hr] at this; cases this
    have session := fun {j} => s.releaseAll_session (j := j) hr (h.size i fs hr).2.2 follower_ne
    refine h.disband hr role (fun e he => ?_) fun j hi hf => ?_
    · have k := Session.role_of_bearing (others e.index (follower_ne e he))
      rw [session (follower_ne e he), if_pos ⟨e, he, rfl⟩, Session.released_eq] at k
      exact k
    · rw [others j hi, session hi, if_neg fun ⟨e, he, c⟩ => hf e he c]

end

/-- The profile of a session in a tether's reach is held (R13). -/
theorem State.RecordsSound.profile_ne_none {s : State} (h : s.RecordsSound) {i : SessionIx}
    (ha : (s.session i).admin = .primed ∨ (s.session i).admin = .streaming) : (s.session i).profile ≠ none := by
  have := (h i).profile.mpr ha
  intro c; rw [c] at this; cases this

theorem State.TethersSound.publish {s : State} (h : s.TethersSound) (i : SessionIx) (l : Ladder) :
    (s.publish i l).TethersSound := by
  unfold State.publish
  extract_lets x stored carried
  have hp : State.TethersSound (s.modSession i fun y =>
      { y with published := some l, generation := y.generation + 1, admin := .streaming }) := by
    refine h.of_roles (fun j => ?_) fun j _ hj => ?_
    · rw [State.modSession_session]; split <;> rfl
    · rw [State.modSession_session]; split
      · exact .inr rfl
      · exact hj
  have hs : stored.TethersSound := by
    unfold stored State.reformMap
    split
    · exact hp
    · exact hp
    · refine hp.reform (t := State.modSession _ _ _) (by rw [State.modSession_session_self]; rfl) fun j hj => ?_
      rw [State.modSession_session_ne _ _ _ _ hj]
  have hc : SameBearing stored carried := .ite (stored.carryRungs_stands _ _).bearing (stored.firstRung_stands _).bearing
  have hh : SameBearing carried (carried.modSession i fun y => y.restartUpHold s.time) :=
    (Stands.modSession fun y => y.standing_restartUpHold _).bearing
  exact hs.of_bearing ((hc.trans hh).trans (State.recompute_stands _).bearing)

/-- No session has a role in the power-on state (R1). -/
theorem State.TethersSound.of_reset {t : State} (h : t.sessions = State.reset.sessions) : t.TethersSound := by
  have role : ∀ i, (t.session i).role = .independent := fun i => by rw [State.session_of_reset h]; rfl
  constructor <;> simp [role]

/-- The effect of every command keeps the roles in agreement, where records are sound. -/
theorem Effect.keeps_tethersSound {s e : State} {c : Instr} (he : Effect s c e) (records : s.RecordsSound) (h : s.TethersSound) :
    e.TethersSound := by
  cases hc : Instr.reshapes c with
  | false => exact h.of_bearing (he.stands hc).bearing
  | true =>
    cases he with
    | powerOn | resetInput | deviceResetTaken => exact .of_reset rfl
    | openSession i vacant =>
      have free : (s.session i).role = .independent := by
        by_contra hr
        have := h.members i hr
        simp [vacant] at this
      refine h.set_independent free (by rw [State.modSession_session_self]; rfl) fun j hj => ?_
      rw [State.modSession_session_ne _ _ _ _ hj]
    | sessionReset i _ => exact h.resetSession i _
    | closeSession i _ =>
      have removed : (s.removeFlows i).TethersSound := h.of_bearing (.refl s)
      exact removed.resetSession i _
    | prime n i _ _ =>
      refine State.TethersSound.of_bearing ?_ (State.examine_stands _).bearing
      have bearing := (s.session i).bearing_primed s.time n.build
      refine h.of_roles (fun j => ?_) fun j _ hj => ?_
      · rw [State.modSession_session]; split
        · next c => subst c; exact Session.role_of_bearing bearing
        · rfl
      · rw [State.modSession_session]; split
        · next c => subst c; exact .inl (Session.admin_of_bearing bearing)
        · exact hj
    | reprofile n i _ _ => exact h.of_bearing (s.reprofile_bearing i _)
    | stage n i _ => exact h.of_bearing (.modSession rfl)
    | publish n i l _ _ =>
      have staged : State.TethersSound (s.modSession i fun x => { x with staging := x.staging.load n }) :=
        h.of_bearing (.modSession rfl)
      exact staged.publish i l
    | tether n l f passes =>
      obtain ⟨⟨tetherable, -⟩, hne, -⟩ := State.tetherFault_eq_none passes
      have profiled := records.profile_ne_none ((Session.isTetherable_iff _).mp tetherable)
      have bound : (s.bind l f n.map).TethersSound := h.join passes (s.bind_bearing profiled hne)
      have shared := bound.of_bearing (State.recompute_stands _).bearing
      unfold State.tether
      extract_lets t
      split
      · exact shared
      · exact shared.of_bearing t.examine_stands.bearing
    | untether i l _ role =>
      refine State.TethersSound.of_bearing ?_ (State.recompute_stands _).bearing
      have hne := h.leader_ne role
      have session := s.release_session hne.symm
      refine h.leave role ?_ ?_ fun j hi hl => ?_
      · rw [session, if_pos rfl, Session.released_eq]
      · rw [session, if_neg hne, if_pos rfl]; rfl
      · rw [session, if_neg hi, if_neg hl]
    | askFetch n i _ _ => exact h.of_bearing (s.queueAsk_bearing i n)
    | doneFetch n i k x _ _ => exact h.of_bearing (s.finishSlot_bearing k x _)
    | doneLate n i tag => exact h.of_bearing (s.lateReport_stands i tag).bearing
    | play n i _ => exact h.of_bearing (s.playReport_bearing i n)
    | emptyPoint i => exact h.of_bearing (.modSession rfl)
    | freshness i => exact h.of_bearing (s.blindSession_bearing i)
    | _ => cases hc

/-- Settles O59: every effect keeps the roles in agreement, in records that O58 keeps sound. -/
theorem tethersStaySound : Obligations.TethersStaySound := by
  intro s t records tethers hstep
  have keep : ∀ {u v : State}, v.sessions = u.sessions → u.TethersSound → v.TethersSound := fun h hu =>
    hu.of_bearing (Stands.of_sessions h).bearing
  refine (step_keeps (P := fun u => u.RecordsSound ∧ u.TethersSound) (fun clock h => ?_) (fun h hx => ?_)
    ⟨records, tethers⟩ hstep).2
  · exact ⟨State.RecordsSound.of_sessions clock.sessions h.1, keep clock.sessions h.2⟩
  · refine exec_keeps (P := fun u => u.RecordsSound ∧ u.TethersSound) (fun {u v} reports h => ?_) (fun he h => ?_) h hx
    · have sessions : v.sessions = u.sessions := (congrArg State.sessions reports.apart :)
      exact ⟨State.RecordsSound.of_sessions sessions h.1, keep sessions h.2⟩
    · exact ⟨fun i => he.keepsSound i (h.1 i), he.keeps_tethersSound h.1 h.2⟩

end Sys2Proof.Machine

/-! SUPPORT. The flow table stays sound (R163, R164, R165): a frame's hit, idleness, UNBIND and CLOSE bring no new binding,
FLOW BIND's checks keep the bounds, and a session becomes VACANT only when its entries are removed with it. -/

namespace Sys2Proof.Machine

/-- What a flow entry binds to what. -/
def FlowEntry.binding (e : FlowEntry) : FlowKey × SessionIx := (e.key, e.session)

/-- The bindings of t are bindings of s, each no more often and in their order there. -/
def BindsWithin (s t : State) : Prop := (t.flows.map FlowEntry.binding).Sublist (s.flows.map FlowEntry.binding)

section
variable {s t u : State}

theorem BindsWithin.of_flows (h : t.flows = s.flows) : BindsWithin s t := by
  unfold BindsWithin; rw [h]

theorem BindsWithin.trans (h : BindsWithin s t) (k : BindsWithin t u) : BindsWithin s u := List.Sublist.trans k h

theorem BindsWithin.of_filter {p : FlowEntry → Bool} (h : t.flows = s.flows.filter p) : BindsWithin s t := by
  unfold BindsWithin; rw [h]; exact List.filter_sublist.map _

theorem BindsWithin.of_gateWork (w : GateWork s t) : BindsWithin s t := .of_flows (by rw [w])

theorem State.hit_bindsWithin (s : State) (k : FlowKey) : BindsWithin s (s.hit k) := by
  have h : (s.hit k).flows.map FlowEntry.binding = s.flows.map FlowEntry.binding := by
    simp only [State.hit, List.map_map]
    exact List.map_congr_left fun e _ => by simp only [Function.comp]; split <;> rfl
  unfold BindsWithin; rw [h]

theorem State.flowsOf_length (s : State) (i : SessionIx) :
    (s.flowsOf i).length = ((s.flows.map FlowEntry.binding).filter fun b => decide (b.2 = i)).length := by
  rw [List.filter_map, List.length_map]; rfl

/-- A sound table with entries gone, none of whose sessions has become VACANT, is sound. -/
theorem State.FlowsSound.within (h : s.FlowsSound) (w : BindsWithin s t)
    (occupied : ∀ i, (t.session i).admin = .vacant → (s.session i).admin = .vacant) : t.FlowsSound := by
  obtain ⟨table, keys, perSession, bound⟩ := h
  have keysOf : ∀ v : State, v.flows.map FlowEntry.key = (v.flows.map FlowEntry.binding).map Prod.fst := fun v => by
    rw [List.map_map]; rfl
  constructor
  · simpa using w.length_le.trans (by simpa using table)
  · rw [keysOf] at keys ⊢; exact keys.sublist (w.map _)
  · intro i
    have hs := perSession i
    rw [State.flowsOf_length] at hs ⊢
    exact (w.filter _).length_le.trans hs
  · intro e he vacant
    obtain ⟨e', he', same⟩ := List.mem_map.mp (w.subset (List.mem_map_of_mem he))
    obtain ⟨-, same⟩ := Prod.mk.injEq .. ▸ same
    exact bound e' he' (same ▸ occupied _ vacant)

theorem State.FlowsSound.of_empty (h : s.flows = []) : s.FlowsSound := by
  constructor <;> simp [h, State.flowsOf]

theorem State.removeIdle_bindsWithin (s : State) (test : FlowEntry → Bool) : BindsWithin s (s.removeIdle test) := by
  unfold State.removeIdle
  extract_lets idle kept
  have raised : RecordsOnly kept ((s.flows.filter idle).foldl (fun t e => t.raiseOn e.session .flowExpired) kept) :=
    RecordsOnly.foldl _ (fun t (e : FlowEntry) => t.raiseOn_records e.session .flowExpired) _ _
  exact BindsWithin.trans (.of_filter rfl) (.of_gateWork raised.gate)

theorem State.applySetup_bindsWithin (s : State) (n : SetupNote) : BindsWithin s (s.applySetup n) := by
  unfold State.applySetup
  extract_lets u set trimmed shared
  have ht : BindsWithin s trimmed := by
    unfold trimmed; split
    · exact .of_flows rfl
    · exact BindsWithin.trans (t := set) (.of_flows rfl) (set.removeIdle_bindsWithin _)
  have hh : GateWork trimmed shared := GateWork.ite (.refl _) trimmed.recompute_shares.gate
  exact ht.trans (.of_gateWork (GateWork.ite hh (hh.trans shared.examine_gateWork)))

theorem State.reSeed_flows (s : State) : s.reSeed.flows = s.flows := by
  unfold State.reSeed; rw [State.recompute_shares]

theorem State.receiveLine_bindsWithin (s : State) (f : Frame) : BindsWithin s (s.receiveLine f) := by
  have queued : ∀ (u : State) (bs : List Byte), (u.queueDownlink bs).flows = u.flows := fun u bs => by
    unfold State.queueDownlink; split <;> rfl
  unfold State.receiveLine
  split
  · exact .of_flows rfl
  split
  · exact .of_flows rfl
  refine BindsWithin.trans (t := s.classifyDownlink f.bytes) ?_ (.of_flows (queued _ _))
  unfold State.classifyDownlink; split
  · exact (s.hit_bindsWithin _).trans (.of_gateWork (State.attributeBytes_gateWork _ _ _))
  · exact .of_flows rfl

theorem State.receiveStation_bindsWithin (s : State) (f : Frame) : BindsWithin s (s.receiveStation f) := by
  have queued : ∀ (u : State) (bs : List Byte), (u.queueUplink bs).flows = u.flows := fun u bs => by
    unfold State.queueUplink; split <;> rfl
  have taken : (s.takeControl f.bytes).flows = s.flows := by
    unfold State.takeControl; repeat' split
    all_goals rfl
  unfold State.receiveStation
  split
  · exact .of_flows rfl
  split
  · exact .of_flows rfl
  split
  · exact .of_flows taken
  refine BindsWithin.trans (t := (s.classifyUplink f.bytes).1) ?_ (.of_flows (queued _ _))
  unfold State.classifyUplink; split
  · exact .of_flows rfl
  · split <;> exact s.hit_bindsWithin _

/-- A binding that passes R164's checks leaves the table sound. -/
theorem State.FlowsSound.addFlow (h : s.FlowsSound) {i : SessionIx} {k : FlowKey} (opened : (s.session i).admin ≠ .vacant)
    (passes : s.bindFault i k = none) : (s.addFlow i k).FlowsSound := by
  obtain ⟨table, keys, perSession, bound⟩ := h
  unfold State.bindFault at passes
  split at passes
  · cases passes
  next fresh =>
  split at passes
  · cases passes
  next room =>
  split at passes
  · cases passes
  next space =>
  have unbound : ∀ e ∈ s.flows, e.key ≠ k := by
    simpa [State.flowByKey] using fresh
  unfold sessionFlows at room
  unfold tableFlows at space
  constructor
  · simp only [State.addFlow, List.length_append, List.length_singleton]; omega
  · rw [State.addFlow, List.map_append, List.nodup_append]
    refine ⟨keys, List.nodup_singleton _, ?_⟩
    rintro _ ha _ hb rfl
    obtain ⟨e, he, rfl⟩ := List.mem_map.mp ha
    exact unbound e he (by simpa using hb)
  · intro j
    have hj := perSession j
    unfold State.flowsOf State.addFlow at *
    simp only [List.filter_append, List.length_append]
    by_cases e : i = j
    · subst e; simp only [decide_true, List.filter_cons_of_pos, List.filter_nil, List.length_singleton]; omega
    · simpa [e] using hj
  · intro e he
    rcases List.mem_append.mp he with he | he
    · exact bound e he
    · rw [List.mem_singleton.mp he]; exact opened

end

/-- The commands that bind a flow or can leave a session VACANT. -/
def Instr.rebinds : Instr → Bool
  | .powerOn | .resetInput | .deviceResetTaken | .closeSession _ | .flowBind _ => true
  | _ => false

theorem Effect.bindsWithin {c : Instr} {s e : State} (he : Effect s c e) (hc : Instr.rebinds c = false) : BindsWithin s e := by
  have effect := he
  cases he with
  | resetInputRelease | lineCarrierDown | stationCarrierUp | stationCarrierDown | batch | claim | deviceStatus | linkSnapshot |
      deviceReset | millisecond | busyMillisecond => exact .of_flows rfl
  | lineCarrierUp => exact .of_flows (State.reSeed_flows _)
  | linkRestart => exact .of_flows s.reSeed_flows
  | downlinkFrame f => exact s.receiveLine_bindsWithin f
  | uplinkFrame f | controlFrame f => exact s.receiveStation_bindsWithin f
  | setup n => exact s.applySetup_bindsWithin n
  | flowUnbind n => exact .of_filter rfl
  | stationTransmit => exact .of_flows (by rw [s.beginStation_eq])
  | lineTransmit => exact .of_flows (by rw [s.beginLine_eq])
  | linkSample => exact .of_flows (by unfold State.sampleLink; rw [State.recompute_shares])
  | drawWindow order =>
    obtain ⟨u, hu, taken⟩ := s.endWindow_announced order
    exact .of_flows (by rw [taken, hu])
  | flowIdle key => exact s.removeIdle_bindsWithin _
  | powerOn | resetInput | deviceResetTaken | closeSession | flowBind => cases hc
  | _ => exact .of_gateWork (effect.gateWork rfl)

theorem Effect.occupied {c : Instr} {s e : State} (he : Effect s c e) (hc : Instr.rebinds c = false) {i : SessionIx}
    (vacant : (e.session i).admin = .vacant) : (s.session i).admin = .vacant := by
  rcases he.admin i with h | ⟨-, h⟩ | ⟨-, h⟩ | ⟨-, h⟩ | ⟨-, -, h⟩ | rfl | rfl | rfl | rfl
  · exact h ▸ vacant
  · rw [vacant] at h; cases h
  · rw [vacant] at h; cases h
  · rw [vacant] at h; cases h
  · rw [vacant] at h; cases h
  all_goals cases hc

theorem Effect.keeps_flowsSound {c : Instr} {s e : State} (he : Effect s c e) (h : s.FlowsSound) : e.FlowsSound := by
  cases hc : Instr.rebinds c with
  | false => exact h.within (he.bindsWithin hc) fun i vacant => he.occupied hc vacant
  | true =>
    cases he with
    | powerOn | resetInput | deviceResetTaken => exact .of_empty rfl
    | flowBind n i opened passes => exact h.addFlow opened passes
    | closeSession i _ =>
      have removed : (s.removeFlows i).FlowsSound := h.within (.of_filter rfl) fun _ vacant => vacant
      obtain ⟨table, keys, perSession, bound⟩ := removed
      have flows : ((s.removeFlows i).resetSession i .vacant).flows = (s.removeFlows i).flows := by
        rw [State.resetSession_gateWork (s.removeFlows i) i .vacant]
      refine ⟨flows ▸ table, flows ▸ keys, fun j => ?_, fun e he => ?_⟩
      · unfold State.flowsOf; rw [flows]; exact perSession j
      · rw [flows] at he
        have other : e.session ≠ i := by simpa using (List.mem_filter.mp he).2
        have admin := congrArg Prod.fst ((s.removeFlows i).resetSession_bearing i .vacant e.session)
        rw [if_neg other] at admin
        exact fun vacant => bound e he (((s.removeFlows i).dissolve_admin i e.session).symm.trans (admin.symm.trans vacant))
    | _ => cases hc

/-- Settles O57: every effect keeps the table sound, and neither reports nor the clock touch it or a record. -/
theorem flowTableIsKept : Obligations.FlowTableIsKept := by
  intro s t hs hstep
  have same : ∀ {u v : State}, u.FlowsSound → v.flows = u.flows → v.sessions = u.sessions → v.FlowsSound :=
    fun h flows sessions => h.within (.of_flows flows) fun i vacant =>
      ((Stands.of_sessions sessions).bearing.admin i).symm.trans vacant
  refine step_keeps (P := State.FlowsSound) (fun clock h => ?_) (fun h hx => ?_) hs hstep
  · exact same h (by rw [clock]) clock.sessions
  · exact exec_keeps (P := State.FlowsSound) (fun reports hu => same hu (congrArg State.flows reports.apart :) (congrArg State.sessions reports.apart :))
      (fun he hu => he.keeps_flowsSound hu) h hx

end Sys2Proof.Machine

/-! SUPPORT. The queues stay within their bounds (R107, R159, R160, R167): each queue is appended to in one place that looks
at its length, or at the asks queued, first; everything else only takes from it. -/

namespace Sys2Proof.Machine

/-- One note of the part's own accord joins the newest frame or begins one (R160). -/
inductive OriginateStep : List ReportFrame → List ReportFrame → Prop
  | begins (q : List ReportFrame) (f : ReportFrame) (room : q.length < 8) (own : f.isReply = false)
      (closed : f.isOpen = false) (bare : ∀ r, OutNote.reply r ∉ f.notes) : OriginateStep q (q ++ [f])
  | joins (q : List ReportFrame) (f : ReportFrame) (n : OutNote) (takes : f.takesOriginated = true)
      (own : ∀ r, n ≠ .reply r) : OriginateStep (q ++ [f]) (q ++ [{ f with notes := f.notes ++ [n] }])

/-- The second queue is the first one after notes of the part's own accord. -/
abbrev Originated : List ReportFrame → List ReportFrame → Prop := Relation.ReflTransGen OriginateStep

theorem Originated.room {q r : List ReportFrame} (h : Originated q r) (hq : q.length ≤ 8) : r.length ≤ 8 := by
  induction h with
  | refl => exact hq
  | tail _ step ih => cases step <;> simp_all

/-- A note that is not a REPLY is originated by joining, by beginning a frame, or is not queued (R160). -/
theorem State.originate_originated (s : State) (n : OutNote) (own : ∀ r, n ≠ .reply r) :
    Originated s.path.reportQueue (s.originate n).1.path.reportQueue := by
  have begun : ∀ f : ReportFrame, f.isReply = false → f.isOpen = false → f.notes = [n] →
      Originated s.path.reportQueue (s.beginReport f).1.path.reportQueue := fun f reply closed notes => by
    unfold State.beginReport
    split
    · next room => exact .single (.begins _ f room reply closed fun r => by simpa [notes] using (own r).symm)
    · exact .refl
  unfold State.originate
  split
  · exact .refl
  · split
    · next f last =>
      split
      · next takes =>
        have queue := List.dropLast_append_getLast? f last
        have step := OriginateStep.joins s.path.reportQueue.dropLast f n takes own
        rw [queue] at step
        exact .single step
      · exact begun _ rfl rfl rfl
    · exact begun _ rfl rfl rfl

/-- From s to t no ask is added, and the report queue takes only notes of the part's own accord. -/
structure QueuesKept (s t : State) : Prop where
  asks : t.gate.askQueue.Sublist s.gate.askQueue
  reports : Originated s.path.reportQueue t.path.reportQueue

section
variable {s t u : State}

theorem QueuesKept.refl (s : State) : QueuesKept s s := ⟨.refl _, .refl⟩

theorem QueuesKept.trans (h : QueuesKept s t) (k : QueuesKept t u) : QueuesKept s u :=
  ⟨k.asks.trans h.asks, .trans h.reports k.reports⟩

theorem QueuesKept.of_eq (asks : t.gate.askQueue = s.gate.askQueue) (reports : t.path.reportQueue = s.path.reportQueue) :
    QueuesKept s t :=
  ⟨asks ▸ .refl _, reports ▸ .refl⟩

theorem SharesOnly.queues (h : SharesOnly s t) : QueuesKept s t := .of_eq (by rw [h]) (by rw [h])

theorem RecordsOnly.queues (h : RecordsOnly s t) : QueuesKept s t := h.shares.queues

theorem QueuesKept.ite {c : Prop} [Decidable c] (h : QueuesKept s t) (k : QueuesKept s u) :
    QueuesKept s (if c then t else u) := by
  split <;> assumption

theorem QueuesKept.foldl {α : Type} (f : State → α → State) (step : ∀ s a, QueuesKept s (f s a)) (l : List α) (s : State) :
    QueuesKept s (l.foldl f s) :=
  foldl_related QueuesKept .refl .trans f step l s

variable (s)

theorem State.setSlot_queues (k : SlotIx) (x : Option Slot) : QueuesKept s (s.setSlot k x) := .of_eq rfl rfl

theorem State.removeAsk_queues (i : SessionIx) : QueuesKept s (s.removeAsk i) := ⟨List.filter_sublist, .refl⟩

theorem State.originate_queues (n : OutNote) (own : ∀ r, n ≠ .reply r) : QueuesKept s (s.originate n).1 := by
  have asks : (s.originate n).1.gate.askQueue = s.gate.askQueue :=
    (congrArg (fun v : State => v.gate.askQueue) (s.originate_apart n) :)
  exact ⟨asks ▸ .refl _, s.originate_originated n own⟩

theorem State.compareAttention_queues : QueuesKept s s.compareAttention := by
  unfold State.compareAttention
  split
  · exact .of_eq rfl rfl
  · split
    · exact .refl s
    · extract_lets sent
      have hs : QueuesKept s sent.1 := s.originate_queues _ fun _ => nofun
      split
      · exact ⟨hs.asks, hs.reports⟩
      · exact hs

theorem State.releaseSlots_queues (i : SessionIx) : QueuesKept s (s.releaseSlots i) := by
  unfold State.releaseSlots
  apply QueuesKept.foldl
  intro t p
  exact t.setSlot_queues p.1 none

theorem State.grant_queues (a : Ask) : QueuesKept s (s.grant a) := by
  unfold State.grant
  extract_lets judged tag
  have hj : QueuesKept s judged := (s.removeAsk_queues _).trans (State.judge_records _ _).queues
  split
  · exact hj
  · extract_lets filled
    have hf : QueuesKept judged filled := .of_eq rfl rfl
    exact ((hj.trans hf).trans (filled.tellGrant_records _).queues).trans (State.originate_queues _ _ fun _ => nofun)

theorem State.grantLoop_queues (n : Nat) (s : State) : QueuesKept s (State.grantLoop n s) := by
  induction n generalizing s with
  | zero => exact .refl s
  | succ n ih =>
    unfold State.grantLoop; split
    · exact .refl s
    · exact .ite ((s.grant_queues _).trans (ih _)) (s.grant_queues _)

theorem State.examine_queues : QueuesKept s s.examine :=
  (State.grantLoop_queues _ s).trans (State.setDrainTimers_records _).queues

theorem State.missDeadline_queues (k : SlotIx) (x : Slot) : QueuesKept s (s.missDeadline k x) := by
  unfold State.missDeadline
  extract_lets holder marked counted told
  have hm : QueuesKept s marked := s.setSlot_queues _ _
  have hc : QueuesKept s counted :=
    (hm.trans (marked.modSession_records _ _).queues).trans (State.modSession_records _ _ _).queues
  have hj : QueuesKept s (counted.judge x.session) := hc.trans (counted.judge_records _).queues
  have ha : QueuesKept s ((counted.judge x.session).advise x.session x.tag) := hj.trans (State.originate_queues _ _ fun _ => nofun)
  have ht : QueuesKept s told := ha.trans (State.raiseOn_records _ _ _).queues
  exact .ite (ht.trans (told.resync_records _ _).queues) ht

theorem State.expireSlot_queues (k : SlotIx) (x : Slot) : QueuesKept s (s.expireSlot k x) := by
  unfold State.expireSlot
  extract_lets freed
  have hf : QueuesKept s freed := (s.setSlot_queues k none).trans (State.modSession_records _ _ _).queues
  exact (hf.trans (freed.raiseOn_records _ _).queues).trans (State.examine_queues _)

theorem State.finishSlot_queues (k : SlotIx) (x : Slot) (o : FetchOutcome) : QueuesKept s (s.finishSlot k x o) := by
  have freed := s.setSlot_queues k none
  unfold State.finishSlot; simp only []; split
  · exact (freed.trans (State.completeFetch_records _ _).queues).trans (State.examine_queues _)
  · exact freed.trans (State.examine_queues _)

theorem State.reprofile_queues (i : SessionIx) (p : Profile) : QueuesKept s (s.reprofile i p) := by
  unfold State.reprofile
  extract_lets x y stored raised copied shared
  have hs : RecordsOnly s stored := s.modSession_records _ _
  have hr : RecordsOnly s raised := .ite (hs.trans (stored.raiseOn_records _ _)) hs
  have hc : RecordsOnly s copied := (hr.trans (raised.lowerToAllowed_records i)).trans (State.copyToFollowers_records _ i)
  have hh : SharesOnly s shared := .ite (hc.shares.trans copied.recompute_shares) hc.shares
  exact .ite (hh.queues.trans shared.examine_queues) hh.queues

theorem State.playReport_queues (i : SessionIx) (n : PlayNote) : QueuesKept s (s.playReport i n) := by
  unfold State.playReport
  extract_lets x y stored lowered shared
  have hs : RecordsOnly s stored := s.modSession_records _ _
  have hl : RecordsOnly s lowered := .ite hs (hs.trans (stored.lowerToAllowed_records _))
  have hh : SharesOnly s shared := .ite hl.shares (hl.shares.trans lowered.recompute_shares)
  exact .ite (hh.queues.trans shared.examine_queues) hh.queues

theorem State.tether_queues (l f : SessionIx) (m : Option (List Nat)) : QueuesKept s (s.tether l f m) := by
  unfold State.tether
  extract_lets t
  have ht : QueuesKept s t := ((s.bind_records l f m).shares.trans (State.recompute_shares _)).queues
  exact .ite ht (ht.trans t.examine_queues)

theorem State.resetSession_queues (i : SessionIx) (a : Admin) : QueuesKept s (s.resetSession i a) := by
  unfold State.resetSession
  extract_lets x emptied cleared shared
  have he : QueuesKept s emptied :=
    ((s.dissolve_records i).queues.trans (State.releaseSlots_queues _ i)).trans (State.removeAsk_queues _ i)
  have hc : QueuesKept s cleared := he.trans (emptied.modSession_records _ _).queues
  have hs : QueuesKept s shared := .ite (hc.trans cleared.recompute_shares.queues) hc
  exact .ite hs (hs.trans shared.examine_queues)

theorem settle_queues {t : State} (h : QueuesKept s t) (u : State) : QueuesKept s (settle u t) :=
  .ite h (h.trans t.compareAttention_queues)

theorem State.evaluateLive_queues (i : SessionIx) (d : Nat) (c : Bool) : QueuesKept s (s.evaluateLive i d c) := by
  have marks : QueuesKept s (s.markOverLow i) := by
    unfold State.markOverLow
    apply QueuesKept.foldl
    intro t k
    split
    · exact .refl t
    · exact .ite (t.setSlot_queues _ _) (.refl t)
  unfold State.evaluateLive
  extract_lets x marked timed
  have ht : QueuesKept s timed := marks.trans (marked.modSession_records _ _).queues
  exact .ite (.ite (marks.trans (marked.overdraw_shares _).queues) (.ite (ht.trans (timed.overdraw_shares _).queues) ht)) (.refl s)

theorem State.evaluateWindow_queues (i : SessionIx) : QueuesKept s (s.evaluateWindow i) := by
  unfold State.evaluateWindow
  extract_lets d c kept
  have hk : QueuesKept s kept := (s.modSession_records _ _).queues
  split
  · split
    · split
      · exact hk
      · exact settle_queues s (hk.trans (kept.evaluateStart_shares _ _ _).queues) _
      · exact settle_queues s (hk.trans (kept.evaluateLive_queues _ _ _)) _
    · exact hk
  · exact .refl s

theorem State.endWindow_queues (order : List SessionIx) : QueuesKept s (s.endWindow order) := by
  have evaluated := QueuesKept.foldl _ (fun t i => t.evaluateWindow_queues i) (windowOrder order) s
  have cleared := evaluated.trans (State.clearWindows_records _).queues
  exact ⟨cleared.asks, cleared.reports⟩

end

theorem Effect.queuesKept {c : Instr} {s e : State} (he : Effect s c e) (hc : Instr.worksAtGate c = true)
    (ha : ∀ n, c ≠ .askFetch n) : QueuesKept s e := by
  cases he with
  | openSession i | sessionStatus i | stage _ i | emptyPoint i | upHold i => exact (s.modSession_records i _).queues
  | sessionReset i => exact s.resetSession_queues i _
  | prime n i => exact (s.modSession_records i _).queues.trans (State.examine_queues _)
  | reprofile n i => exact s.reprofile_queues i _
  | publish n i l => exact ((s.modSession_records i _).shares.trans (State.publish_shares _ i l)).queues
  | tether n l f => exact s.tether_queues l f _
  | untether i l => exact ((s.release_records l i).shares.trans (State.recompute_shares _)).queues
  | rearm i => exact (s.rearm_shares i).queues
  | askFetch n i => exact absurd rfl (ha _)
  | doneFetch n i k x => exact s.finishSlot_queues k x _
  | doneLate n i tag | abortLate n i tag => exact (s.lateReport_records i tag).queues
  | abortFetch n k => exact (s.setSlot_queues k none).trans (State.examine_queues _)
  | play n i => exact s.playReport_queues i n
  | freshness i => exact (s.blindSession_records i).queues
  | deadline k x => exact s.missDeadline_queues k x
  | expiry k x => exact s.expireSlot_queues k x
  | spacingHold =>
    have cleared : QueuesKept s { s with gate.spacingHold := none } := .of_eq rfl rfl
    exact cleared.trans (State.examine_queues _)
  | drainTimer i => exact (s.modSession_records i _).queues.trans (State.examine_queues _)
  | retry i => exact (s.retry_shares i).queues
  | _ => cases hc

section
variable {s t : State}

theorem State.QueuesBounded.of_kept (h : s.QueuesBounded) (k : QueuesKept s t) (down : t.path.downlinkQueue = s.path.downlinkQueue)
    (up : t.path.uplinkQueue = s.path.uplinkQueue) (control : t.control.inputQueue = s.control.inputQueue) : t.QueuesBounded :=
  ⟨down ▸ h.downlink, up ▸ h.uplink, k.reports.room h.reports, control ▸ h.control, h.asks.sublist (k.asks.map _)⟩

theorem State.QueuesBounded.gateWork (h : s.QueuesBounded) (k : QueuesKept s t) (w : GateWork s t) : t.QueuesBounded :=
  h.of_kept k (by rw [w]) (by rw [w]) (by rw [w])

theorem State.QueuesBounded.of_eq (h : s.QueuesBounded) (gate : t.gate.askQueue = s.gate.askQueue) (path : t.path = s.path)
    (control : t.control.inputQueue = s.control.inputQueue) : t.QueuesBounded :=
  h.of_kept (.of_eq gate (by rw [path])) (by rw [path]) (by rw [path]) control

/-- An ASK appends to a queue that holds none of its session's: a flush before it adds none either (R107, R109). -/
theorem State.QueuesBounded.queueAsk (h : s.QueuesBounded) {i : SessionIx} (n : AskNote) (first : s.askOf i = none) :
    (s.queueAsk i n).QueuesBounded := by
  have others : ∀ a ∈ s.gate.askQueue, a.session ≠ i := by simpa [State.askOf] using first
  unfold State.queueAsk
  extract_lets flushed
  have released := (s.modSession_records i fun x => x.anchorAt s.time 0).queues.trans (State.releaseSlots_queues _ i)
  have kept : QueuesKept s flushed := .ite (released.trans (State.tellFlush_records _ i).queues) (.refl s)
  have moved := (s.modSession_records i fun x => x.anchorAt s.time 0).gate.trans (State.releaseSlots_gateWork _ i)
  have work : GateWork s flushed := .ite (moved.trans (State.tellFlush_records _ i).gate) (.refl s)
  obtain ⟨downlink, uplink, reports, control, asks⟩ := h.gateWork kept work
  refine State.QueuesBounded.gateWork (s := { flushed with gate.askQueue := _ }) ?_ (State.examine_queues _) (State.examine_gateWork _)
  refine ⟨downlink, uplink, reports, control, ?_⟩
  rw [List.map_append, List.nodup_append]
  refine ⟨asks, List.nodup_singleton _, ?_⟩
  rintro _ ha _ hb rfl
  obtain ⟨a, ha, e⟩ := List.mem_map.mp ha
  exact others a (kept.asks.subset ha) (e.trans (by simpa using hb))

theorem State.QueuesBounded.applySetup (h : s.QueuesBounded) (n : SetupNote) : (s.applySetup n).QueuesBounded := by
  unfold State.applySetup
  extract_lets u set trimmed shared
  have ht : trimmed.QueuesBounded := by
    unfold trimmed; split
    · exact h.of_eq rfl rfl rfl
    · rw [State.removeIdle_eq]; exact h.of_eq rfl rfl rfl
  have hh : SharesOnly trimmed shared := .ite (.refl _) trimmed.recompute_shares
  have he : QueuesKept trimmed (if u.maxOutstanding = s.setup.maxOutstanding then shared else shared.examine) :=
    .ite hh.queues (hh.queues.trans shared.examine_queues)
  exact ht.gateWork he (.ite hh.gate (hh.gate.trans shared.examine_gateWork))

theorem State.QueuesBounded.reSeed (h : s.QueuesBounded) : s.reSeed.QueuesBounded := by
  have cleared : State.QueuesBounded { s with meter.estimate := s.setup.linkFloor, meter.busyAcc := 0, meter.byteAcc := 0 } :=
    h.of_eq rfl rfl rfl
  exact cleared.gateWork (State.recompute_shares _).queues (State.recompute_shares _).gate

theorem State.QueuesBounded.receiveLine (h : s.QueuesBounded) (f : Frame) : (s.receiveLine f).QueuesBounded := by
  unfold State.receiveLine
  split
  · exact h
  split
  · exact h.of_kept (.of_eq rfl rfl) rfl rfl rfl
  rw [State.classifyDownlink_eq]
  unfold State.queueDownlink
  split
  · next room =>
    refine ⟨?_, h.uplink, h.reports, h.control, h.asks⟩
    have length : s.path.downlinkQueue.length < forwardingFrames := room
    unfold forwardingFrames at length
    simp only [State.meterFrame, List.length_append, List.length_singleton]; omega
  · exact h.of_kept (.of_eq rfl rfl) rfl rfl rfl

theorem State.QueuesBounded.receiveStation (h : s.QueuesBounded) (f : Frame) : (s.receiveStation f).QueuesBounded := by
  unfold State.receiveStation
  split
  · exact h
  split
  · exact h.of_kept (.of_eq rfl rfl) rfl rfl rfl
  split
  · unfold State.takeControl
    split
    · exact h
    · exact h
    · split
      · next room =>
        refine ⟨h.downlink, h.uplink, h.reports, ?_, h.asks⟩
        unfold controlFrames at room
        simp only [List.length_append, List.length_singleton]; omega
      · exact h.of_kept (.of_eq rfl rfl) rfl rfl rfl
  · extract_lets c
    have hc : c.1.QueuesBounded := by unfold c; rw [State.classifyUplink_eq]; exact h.of_eq rfl rfl rfl
    unfold State.queueUplink
    split
    · next room =>
      refine ⟨hc.downlink, ?_, hc.reports, hc.control, hc.asks⟩
      unfold forwardingFrames at room
      simp only [List.length_append, List.length_singleton]; omega
    · exact hc.of_kept (.of_eq rfl rfl) rfl rfl rfl

theorem State.QueuesBounded.beginStation (h : s.QueuesBounded) : s.beginStation.QueuesBounded := by
  unfold State.beginStation
  split
  · split
    · next f rest queue =>
      have reports := h.reports
      rw [queue, List.length_cons] at reports
      exact ⟨h.downlink, h.uplink, Nat.le_of_succ_le reports, h.control, h.asks⟩
    · split
      · next bs rest queue =>
        have downlink := h.downlink
        rw [queue, List.length_cons] at downlink
        exact ⟨Nat.le_of_succ_le downlink, h.uplink, h.reports, h.control, h.asks⟩
      · exact h
  · exact h

theorem State.QueuesBounded.beginLine (h : s.QueuesBounded) : s.beginLine.QueuesBounded := by
  unfold State.beginLine
  split
  · split
    · next bs rest queue =>
      have uplink := h.uplink
      rw [queue, List.length_cons] at uplink
      exact ⟨h.downlink, Nat.le_of_succ_le uplink, h.reports, h.control, h.asks⟩
    · exact h
  · exact h

theorem State.QueuesBounded.of_empty (asks : s.gate.askQueue = []) (down : s.path.downlinkQueue = [])
    (up : s.path.uplinkQueue = []) (reports : s.path.reportQueue = []) (control : s.control.inputQueue = []) :
    s.QueuesBounded := by
  constructor <;> simp [asks, down, up, reports, control]

end

theorem Effect.keeps_queuesBounded {c : Instr} {s e : State} (he : Effect s c e) (h : s.QueuesBounded) : e.QueuesBounded := by
  have effect := he
  cases he with
  | powerOn | resetInput | deviceResetTaken => exact .of_empty rfl rfl rfl rfl rfl
  | resetInputRelease | lineCarrierDown | stationCarrierUp | stationCarrierDown | claim | deviceStatus | linkSnapshot |
      millisecond | busyMillisecond | flowBind | flowUnbind => exact h.of_kept (.of_eq rfl rfl) rfl rfl rfl
  | deviceReset phase => exact ⟨h.downlink, h.uplink, h.reports, Nat.zero_le 4, h.asks⟩
  | batch bs waiting queue =>
    have control := h.control
    rw [queue, List.length_cons] at control
    exact ⟨h.downlink, h.uplink, h.reports, Nat.le_of_succ_le control, h.asks⟩
  | lineCarrierUp => exact State.QueuesBounded.reSeed (h.of_kept (.of_eq rfl rfl) rfl rfl rfl)
  | linkRestart => exact h.reSeed
  | downlinkFrame f => exact h.receiveLine f
  | uplinkFrame f | controlFrame f => exact h.receiveStation f
  | setup n => exact h.applySetup n
  | closeSession i =>
    have removed : (s.removeFlows i).QueuesBounded := h.of_eq rfl rfl rfl
    exact removed.gateWork (State.resetSession_queues _ i _) (State.resetSession_gateWork _ i _)
  | askFetch n i _ first => exact h.queueAsk n first
  | stationTransmit => exact h.beginStation
  | lineTransmit => exact h.beginLine
  | linkSample =>
    have cleared : State.QueuesBounded { s with
        meter.estimate := linkUpdate s.meter.estimate (linkSampleValue s.meter.byteAcc)
        meter.busyAcc := 0, meter.byteAcc := 0, meter.linkSamples := s.meter.linkSamples + 1 } := h.of_eq rfl rfl rfl
    exact cleared.gateWork (State.recompute_shares _).queues (State.recompute_shares _).gate
  | drawWindow order =>
    obtain ⟨u, work, taken⟩ := s.endWindow_announced order
    refine h.of_kept (s.endWindow_queues order) ?_ ?_ ?_ <;> rw [taken, work]
  | flowIdle key => rw [s.removeIdle_eq]; exact h.of_eq rfl rfl rfl
  | _ => exact h.gateWork (effect.queuesKept rfl fun _ => nofun) (effect.gateWork rfl)

/-- Settles O56: every effect keeps the bounds, reports keep the report queue's (Reported.room), and the clock touches no
queue. -/
theorem queueBoundsAreKept : Obligations.QueueBoundsAreKept := by
  intro s t hs hstep
  refine step_keeps (P := State.QueuesBounded) (fun clock h => ?_) (fun h hx => ?_) hs hstep
  · rw [clock]; exact h.of_kept (.of_eq rfl rfl) rfl rfl rfl
  · refine exec_keeps (P := State.QueuesBounded) (fun {u v} reports hu => ?_) (fun he hu => he.keeps_queuesBounded hu) h hx
    have path : v.apartFromReports.path = u.apartFromReports.path := (congrArg State.path reports.apart :)
    have asks : v.gate.askQueue = u.gate.askQueue := (congrArg (fun w : State => w.gate.askQueue) reports.apart :)
    have control : v.control.inputQueue = u.control.inputQueue :=
      (congrArg (fun w : State => w.control.inputQueue) reports.apart :)
    have down : v.path.downlinkQueue = u.path.downlinkQueue := (congrArg FramePath.downlinkQueue path :)
    have up : v.path.uplinkQueue = u.path.uplinkQueue := (congrArg FramePath.uplinkQueue path :)
    exact ⟨down ▸ hu.downlink, up ▸ hu.uplink, reports.room hu.reports, control ▸ hu.control, asks ▸ hu.asks⟩

end Sys2Proof.Machine

/-! SUPPORT. The machine as a whole: the front command, the resets, what every command leaves alone, and the invariants of the
reset state (R1, R175; log entries 1, 15 and 31). -/

namespace Sys2Proof.Machine

/-- Settles O1: it is how step takes its queue apart. -/
theorem stepRunsTheFrontCommand : Obligations.StepRunsTheFrontCommand := fun _ _ _ => rfl

/-- Settles O3: the reset state's fields as they are written, its tables entry by entry. -/
theorem resetLeavesThePowerOnState : Obligations.ResetLeavesThePowerOnState := by
  have record : ∀ i, State.reset.session i = Session.vacant := State.session_reset
  have free : ∀ k, State.reset.slot k = none := fun k => by simp [State.reset, State.slot]
  refine ⟨rfl, fun i => ?_, free, rfl, rfl, rfl, rfl, rfl, rfl, rfl, rfl⟩
  rw [record]
  exact ⟨rfl, rfl, rfl, rfl, rfl, rfl⟩

theorem State.unlessReset_of_released {s : State} (h : s.resetAsserted = false) (f : State → State) :
    s.unlessReset f = f s := by
  simp [State.unlessReset, h]

/-- A pending reset can be taken when it is due, or when its reply frame is in transmission (R175). -/
theorem State.resetCanBeTaken_iff (s : State) : s.resetCanBeTaken = true ↔ s.control.resetPhase = .due ∨
    (s.control.resetPhase = .awaitingReply ∧ ∃ x, s.path.station.sending = some x ∧ x.resetReply = true) := by
  unfold State.resetCanBeTaken
  cases s.control.resetPhase <;> simp [Option.any_eq_true]

/-- Settles O4: a reset is taken exactly when it can be. -/
theorem resetsLeaveThePowerOnState : Obligations.ResetsLeaveThePowerOnState := by
  intro s
  refine ⟨rfl, rfl, rfl, fun released due => ?_, fun released early => ?_⟩
  · simp only [exec, execDeviceResetTaken, State.unlessReset_of_released released, if_pos (s.resetCanBeTaken_iff.mpr due)]
    rw [State.powerOnState, released]; rfl
  · have waits : ¬ s.resetCanBeTaken = true := by
      rw [State.resetCanBeTaken_iff]
      rintro (due | ⟨awaits, x, sending, reply⟩)
      · simp [due] at early
      · obtain quiet | ⟨-, others⟩ := early
        · simp [quiet] at awaits
        · simp [others x sending] at reply
    simp only [exec, execDeviceResetTaken, State.unlessReset_of_released released, if_neg waits]

/-- Settles O60: the reset state's values lie in range, its queues and tables are empty, and its sessions are VACANT. -/
theorem resetHasTheInvariants : Obligations.ResetHasTheInvariants := by
  refine ⟨State.reset_deviceInRange, .of_empty rfl rfl rfl rfl rfl, .of_empty rfl, fun i => ?_, .of_reset rfl⟩
  rw [State.session_reset]
  exact Session.starting_sound (.inl rfl)

/-- No effect moves the waiting commands, only the input's own two commands move its level, and only a reset the time. -/
theorem Effect.pending_resetAsserted_time {c : Instr} {s e : State} (he : Effect s c e) : e.pending = s.pending ∧
    (c ≠ .resetInput → c ≠ .resetInputRelease → e.resetAsserted = s.resetAsserted) ∧
    (c ≠ .powerOn → c ≠ .resetInput → c ≠ .deviceResetTaken → e.time = s.time) := by
  have effect := he
  cases he with
  | resetInput => exact ⟨rfl, fun h => absurd rfl h, fun _ h => absurd rfl h⟩
  | resetInputRelease => exact ⟨rfl, fun _ h => absurd rfl h, fun _ _ _ => rfl⟩
  | powerOn => exact ⟨rfl, fun _ _ => rfl, fun h => absurd rfl h⟩
  | deviceResetTaken => exact ⟨rfl, fun _ _ => rfl, fun _ _ h => absurd rfl h⟩
  | lineCarrierDown | stationCarrierUp | stationCarrierDown | batch | claim | deviceStatus |
      linkSnapshot | deviceReset | millisecond | busyMillisecond | flowBind | flowUnbind => exact ⟨rfl, fun _ _ => rfl, fun _ _ _ => rfl⟩
  | lineCarrierUp => unfold State.lineUp State.reSeed; rw [State.recompute_shares]; exact ⟨rfl, fun _ _ => rfl, fun _ _ _ => rfl⟩
  | linkRestart => unfold State.reSeed; rw [State.recompute_shares]; exact ⟨rfl, fun _ _ => rfl, fun _ _ _ => rfl⟩
  | downlinkFrame f =>
    have queued : ∀ (u : State) bs, (u.queueDownlink bs).pending = u.pending ∧ (u.queueDownlink bs).resetAsserted = u.resetAsserted ∧
        (u.queueDownlink bs).time = u.time := fun u bs => by unfold State.queueDownlink; split <;> exact ⟨rfl, rfl, rfl⟩
    unfold State.receiveLine
    split
    · exact ⟨rfl, fun _ _ => rfl, fun _ _ _ => rfl⟩
    split
    · exact ⟨rfl, fun _ _ => rfl, fun _ _ _ => rfl⟩
    rw [(queued _ _).1, (queued _ _).2.1, (queued _ _).2.2, State.classifyDownlink_eq]
    exact ⟨rfl, fun _ _ => rfl, fun _ _ _ => rfl⟩
  | uplinkFrame f | controlFrame f => rw [s.receiveStation_eq]; exact ⟨rfl, fun _ _ => rfl, fun _ _ _ => rfl⟩
  | setup n =>
    unfold State.applySetup
    extract_lets u set trimmed shared
    have ht : trimmed.pending = s.pending ∧ trimmed.resetAsserted = s.resetAsserted ∧ trimmed.time = s.time := by
      unfold trimmed; split
      · exact ⟨rfl, rfl, rfl⟩
      · rw [State.removeIdle_eq]; exact ⟨rfl, rfl, rfl⟩
    have hh : GateWork trimmed shared := .ite (.refl _) trimmed.recompute_shares.gate
    have he : GateWork trimmed (if u.maxOutstanding = s.setup.maxOutstanding then shared else shared.examine) :=
      .ite hh (hh.trans shared.examine_gateWork)
    rw [he]; exact ⟨ht.1, fun _ _ => ht.2.1, fun _ _ _ => ht.2.2⟩
  | closeSession i => rw [State.resetSession_gateWork (s.removeFlows i) i .vacant]; exact ⟨rfl, fun _ _ => rfl, fun _ _ _ => rfl⟩
  | stationTransmit => rw [s.beginStation_eq]; exact ⟨rfl, fun _ _ => rfl, fun _ _ _ => rfl⟩
  | lineTransmit => rw [s.beginLine_eq]; exact ⟨rfl, fun _ _ => rfl, fun _ _ _ => rfl⟩
  | linkSample => unfold State.sampleLink; rw [State.recompute_shares]; exact ⟨rfl, fun _ _ => rfl, fun _ _ _ => rfl⟩
  | drawWindow order =>
    obtain ⟨u, work, taken⟩ := s.endWindow_announced order
    rw [taken, work]; exact ⟨rfl, fun _ _ => rfl, fun _ _ _ => rfl⟩
  | flowIdle key => rw [s.removeIdle_eq]; exact ⟨rfl, fun _ _ => rfl, fun _ _ _ => rfl⟩
  | _ => rw [effect.gateWork rfl]; exact ⟨rfl, fun _ _ => rfl, fun _ _ _ => rfl⟩

/-- Settles O2: every command answers, and no effect and no report moves the waiting commands or, the two commands of the
reset input aside, its level. -/
theorem everyCommandAnswers : Obligations.EveryCommandAnswers := by
  intro c s
  obtain ⟨t, ht⟩ := exec_next c s
  have kept : t.pending = s.pending ∧ (c ≠ .resetInput → c ≠ .resetInputRelease → t.resetAsserted = s.resetAsserted) := by
    rcases exec_acts ht with k | ⟨e, he, k⟩
    · exact ⟨(congrArg State.pending k.apart :), fun _ _ => (congrArg State.resetAsserted k.apart :)⟩
    · obtain ⟨pending, level, -⟩ := he.pending_resetAsserted_time
      exact ⟨(congrArg State.pending k.apart :).trans pending, fun h1 h2 => (congrArg State.resetAsserted k.apart :).trans (level h1 h2)⟩
  refine ⟨t, ht, kept.1, ?_, ?_, kept.2⟩
  · rintro rfl; cases ht; rfl
  · rintro rfl; cases ht; rfl

/-! What a PROFILE builds (R6, R7). -/

/-- Clamping changes no given value exactly when the field then holds what was given (R7). -/
theorem outside_eq_false_iff {lo hi d : Nat} {o : Option Nat} : outside lo hi o = false ↔ ∀ v, o = some v → fieldOr lo hi d o = v := by
  cases o <;> simp [outside, fieldOr]

theorem outside_value?_eq_false_iff {lo hi : Nat} {g : Given Nat} :
    outside lo hi g.value? = false ↔ ∀ v, g = .value v → clampTo lo hi v = v := by
  cases g <;> simp [outside, Given.value?]

theorem ProfileNote.clamped_eq_false_iff (n : ProfileNote) : n.clamped = false ↔
    outside 1 15 n.weight = false ∧ outside 0 7 n.uplinkPriority.value? = false ∧ outside 2000 120000 n.bufferTarget = false ∧
    outside 500 n.targetValue n.lowGuard = false ∧ outside 0 n.guardValue n.panicLevel = false ∧ outside 0 60000 n.upHold = false ∧
    outside 500 30000 n.freshnessLimit.value? = false ∧ outside 0 7 n.stallThreshold = false ∧
    outside 1 2 n.outstandingLimit = false ∧ outside 0 15 n.retryLimit = false ∧
    outside 1000 120000 n.retryInterval = false ∧ outside 4 16 n.initialSpeed = false ∧
    outside 0 11 n.defaultCeiling = false := by
  simp only [Sys2Proof.ProfileNote.clamped, Bool.or_eq_false_iff, and_assoc]

/-- Settles O26: each field is fieldOr of what the note gives. -/
theorem profileFieldsAreClampedOrDefault : Obligations.ProfileFieldsAreClampedOrDefault := by
  rintro n _ rfl
  have given : ∀ {lo hi d : Nat} {o : Option Nat} (v : Nat), o = some v → fieldOr lo hi d o = clampTo lo hi v := by
    rintro _ _ _ _ v rfl; rfl
  have omitted : ∀ {lo hi d : Nat} {o : Option Nat}, o = none → fieldOr lo hi d o = d := by rintro _ _ _ _ rfl; rfl
  have target : 2000 ≤ n.targetValue := (fieldOr_mem (by decide) _).1
  have guards : 500 ≤ n.guardValue ∧ n.guardValue ≤ n.targetValue := fieldOr_mem (by omega) _
  have priority : ∀ v, n.uplinkPriority = .value v → n.build.uplinkPriority = some (clampTo 0 7 v) := fun v h => by
    simp [ProfileNote.build, h, Given.value?]
  have limit : ∀ v, n.freshnessLimit = .value v → n.build.freshnessLimit = some (clampTo 500 30000 v) := fun v h => by
    simp [ProfileNote.build, ProfileNote.freshnessValue, h]
  refine ⟨given, omitted, rfl, priority, ?_, given, omitted, given, omitted, given, omitted, fieldOr_le (by omega) _, guards.2,
    given, omitted, limit, ?_, ?_, given, omitted, given, omitted, rfl, given, omitted, given, omitted, rfl, given, omitted,
    given, omitted, ?_⟩
  · rintro (h | h) <;> simp [ProfileNote.build, h, Given.value?]
  · intro h; simp [ProfileNote.build, ProfileNote.freshnessValue, h]
  · intro h; simp [ProfileNote.build, ProfileNote.freshnessValue, h]
  · have priorities : (∀ v, n.uplinkPriority = .value v → n.build.uplinkPriority = some v) ↔
        outside 0 7 n.uplinkPriority.value? = false := by
      rw [outside_value?_eq_false_iff]
      exact forall₂_congr fun v h => by rw [priority v h, Option.some.injEq]
    have limits : (∀ v, n.freshnessLimit = .value v → n.build.freshnessLimit = some v) ↔
        outside 500 30000 n.freshnessLimit.value? = false := by
      rw [outside_value?_eq_false_iff]
      exact forall₂_congr fun v h => by rw [limit v h, Option.some.injEq]
    rw [ProfileNote.clamped_eq_false_iff, priorities, limits]
    simp only [outside_eq_false_iff (d := 4) (o := n.weight), outside_eq_false_iff (d := 30000) (o := n.bufferTarget),
      outside_eq_false_iff (d := min 10000 n.targetValue) (o := n.lowGuard),
      outside_eq_false_iff (d := min 4000 n.guardValue) (o := n.panicLevel),
      outside_eq_false_iff (d := 8000) (o := n.upHold), outside_eq_false_iff (d := 2) (o := n.stallThreshold),
      outside_eq_false_iff (d := 1) (o := n.outstandingLimit), outside_eq_false_iff (d := 3) (o := n.retryLimit),
      outside_eq_false_iff (d := 20000) (o := n.retryInterval), outside_eq_false_iff (d := 8) (o := n.initialSpeed),
      outside_eq_false_iff (d := 11) (o := n.defaultCeiling)]
    rfl

/-! The link meter (R46 to R52). -/

theorem Slot.isReceiving_iff (x : Slot) : x.isReceiving = true ↔ x.phase ≠ .granted := by
  unfold Slot.isReceiving; cases x.phase <;> simp

/-- The meter is busy while the line carrier is up and a slot is RECEIVING (R46). -/
theorem State.meterBusy_iff (s : State) : s.meterBusy = true ↔ s.path.line.carrier = true ∧
    ∃ k x, s.slot k = some x ∧ x.phase ≠ .granted := by
  simp [State.meterBusy, mem_allSlots, Option.any_eq_true, Slot.isReceiving_iff]

/-- Settles O45: the sample at 500 busy milliseconds, and the millisecond that counts below it. -/
theorem linkMeterSamples : Obligations.LinkMeterSamples := by
  rintro s _ _ released rfl rfl
  have period : samplePeriod = 500 := rfl
  refine ⟨fun full => ?_, fun room => ?_, fun busy room => ?_, fun idle => ?_, s.meterBusy_iff⟩
  · simp only [exec, execLinkSample, State.unlessReset_of_released released, if_pos (period ▸ full : samplePeriod ≤ _)]
    rfl
  · simp only [exec, execLinkSample, State.unlessReset_of_released released,
      if_neg (Nat.not_le.mpr (period ▸ room : s.meter.busyAcc < samplePeriod))]
  · simp [exec, execBusyMillisecond, State.unlessReset_of_released released, busy, period, room, State.accrueBusy]
  · have h : (s.meterBusy && decide (s.meter.busyAcc < samplePeriod)) = false := by
      rcases idle with h | h <;> simp [h, period]
    simp only [exec, execBusyMillisecond, State.unlessReset_of_released released, h, Bool.false_eq_true, if_false]

/-! OPEN (R5). -/

theorem exec_openSession {s : State} {b : Batch} (h : s.Hears b) (session : Option Nat) :
    exec (.openSession session) s = .next (s.takeNote 7 false b (s.openBody session)) := by
  simp [exec, execOpenSession, h.taking]

/-- Settles O24: the record of a session that starts, field by field. -/
theorem openSetsTheRecord : Obligations.OpenSetsTheRecord := by
  intro s b i hears vacant
  have body : s.openBody (some i.val) = (s.modSession i fun _ => Session.starting .unprofiled s.time, Answer.done false) := by
    simp [State.openBody, State.sessionNote, State.checkSession, sessionIx?_val, vacant, admission]
  exact hears.noteDoes (a := Answer.done false) (by rw [exec_openSession hears, body]; rfl) (s.modSession_records i _).gate rfl

end Sys2Proof.Machine

/-! SUPPORT. The frame path (R157 to R167): reception, the flow table's lookup, forwarding, and the beginnings of
transmission. -/

namespace Sys2Proof.Machine

theorem Frame.passes_of_good {f : Frame} (fcs : f.fcsOk = true) (length : f.bytes.length + 4 ≤ 1522) : Frame.passes f = true := by
  simp [Frame.passes, fcs, length]

theorem Frame.passes_of_bad {f : Frame} (bad : f.fcsOk = false ∨ 1522 < f.bytes.length + 4) : Frame.passes f = false := by
  rcases bad with h | h
  · simp [Frame.passes, h]
  · simp [Frame.passes, Nat.not_le.mpr h]

section
variable {s : State}

theorem exec_downlinkFrame (released : s.resetAsserted = false) (f : Frame) :
    exec (.downlinkFrame f) s = .next (s.receiveLine f) := by
  simp only [exec, execDownlinkFrame, State.unlessReset_of_released released]

theorem exec_uplinkFrame (released : s.resetAsserted = false) (f : Frame) :
    exec (.uplinkFrame f) s = .next (s.receiveStation f) := by
  simp only [exec, execUplinkFrame, State.unlessReset_of_released released]

/-- CONTROL_FRAME is the station port's reception of its frame (log entry 17). -/
theorem exec_controlFrame (released : s.resetAsserted = false) (f : Frame) :
    exec (.controlFrame f) s = .next (s.receiveStation f) := by
  simp only [exec, execControlFrame, State.unlessReset_of_released released, State.controlFrame_eq_receiveStation]

theorem State.receiveLine_down (down : s.path.line.carrier = false) (f : Frame) : s.receiveLine f = s := by
  simp [State.receiveLine, down]

theorem State.receiveStation_down (down : s.path.station.carrier = false) (f : Frame) : s.receiveStation f = s := by
  simp [State.receiveStation, down]

theorem State.receiveLine_good (up : s.path.line.carrier = true) {f : Frame} (good : Frame.passes f = true) :
    s.receiveLine f = ((s.classifyDownlink f.bytes).meterFrame (countedLength f.bytes)).queueDownlink f.bytes := by
  simp [State.receiveLine, up, good]

theorem State.receiveStation_control (up : s.path.station.carrier = true) {f : Frame} (good : Frame.passes f = true)
    (control : s.takesControl f.bytes = true) : s.receiveStation f = s.takeControl f.bytes := by
  simp [State.receiveStation, up, good, control]

theorem State.receiveStation_forward (up : s.path.station.carrier = true) {f : Frame} (good : Frame.passes f = true)
    (other : s.takesControl f.bytes = false) :
    s.receiveStation f = (s.classifyUplink f.bytes).1.queueUplink (s.classifyUplink f.bytes).2 := by
  simp [State.receiveStation, up, good, other]

end

/-- Settles O7: reception ends at a carrier that is down and at a frame that does not pass. -/
theorem badFramesAreDiscarded : Obligations.BadFramesAreDiscarded := by
  intro s f released
  simp only [exec_downlinkFrame released, exec_uplinkFrame released, exec_controlFrame released]
  refine ⟨fun down => ?_, fun down => ?_, fun bad => ⟨fun up => ?_, fun up => ?_⟩⟩
  · rw [State.receiveLine_down down]
  · rw [State.receiveStation_down down]; exact ⟨rfl, rfl⟩
  · simp [State.receiveLine, up, Frame.passes_of_bad bad]
  · simp [State.receiveStation, up, Frame.passes_of_bad bad]

/-- Settles O10: such a frame is for the control note unit, which takes it by the reset's phase and its queue. -/
theorem controlFrameIsConsumed : Obligations.ControlFrameIsConsumed := by
  intro s f c command released up fcs length type dest
  have good := Frame.passes_of_good fcs length
  have control : s.takesControl f.bytes = true := by
    rcases dest with group | ⟨k, claim, part⟩
    · simp [State.takesControl, type, controlType, group, controlGroup]
    · simp [State.takesControl, type, controlType, claim, part]
  have taken : exec c s = .next (s.takeControl f.bytes) := by
    rw [← State.receiveStation_control up good control]
    rcases command with rfl | rfl
    · exact exec_uplinkFrame released f
    · exact exec_controlFrame released f
  rw [taken]
  refine ⟨fun quiet room => ?_, fun quiet full => ?_, fun pending => ?_⟩
  · simp [State.takeControl, quiet, controlFrames, room]
  · simp [State.takeControl, quiet, controlFrames, Nat.not_lt.mpr full]
  · cases phase : s.control.resetPhase with
    | quiet => exact absurd phase pending
    | awaitingReply | due => simp [State.takeControl, phase]

/-- Settles O11: each port begins with the oldest frame its queues offer. -/
theorem transmissionsBegin : Obligations.TransmissionsBegin := by
  intro s released
  have station : exec .stationTransmit s = .next s.beginStation := by
    simp only [exec, execStationTransmit, State.unlessReset_of_released released]
  have line : exec .lineTransmit s = .next s.beginLine := by
    simp only [exec, execLineTransmit, State.unlessReset_of_released released]
  rw [station, line]
  refine ⟨fun up idle => ⟨fun f rest queue closed => ?_, fun f rest queue opened => ?_, fun bs rest reports queue => ?_,
    fun reports queue => ?_⟩, fun busy => ?_, fun up idle bs rest queue => ?_, fun busy => ?_⟩
  · simp [State.beginStation, State.stationReady, up, idle, queue, closed]
  · simp [State.beginStation, State.stationReady, up, idle, queue, opened]
  · simp [State.beginStation, State.stationReady, up, idle, reports, queue]
  · simp [State.beginStation, State.stationReady, up, idle, reports, queue]
  · have blocked : s.stationReady = false := by rcases busy with h | h <;> simp [State.stationReady, h]
    simp [State.beginStation, blocked]
  · simp [State.beginLine, State.lineReady, up, idle, queue]
  · have blocked : s.lineReady = false := by rcases busy with h | h | h <;> simp [State.lineReady, h]
    simp [State.beginLine, blocked]

/-! The flow table's lookup (R163). -/

section
variable {s : State}

theorem State.flowByKey_eq_none {k : FlowKey} (h : ∀ e ∈ s.flows, e.key ≠ k) : s.flowByKey k = none := by
  simpa [State.flowByKey] using h

/-- With no key twice, a key that an entry holds hits that entry. -/
theorem State.flowByKey_of_mem {e : FlowEntry} (keys : (s.flows.map FlowEntry.key).Nodup) (he : e ∈ s.flows) :
    s.flowByKey e.key = some e := by
  cases found : s.flowByKey e.key with
  | none => simpa using List.find?_eq_none.mp found e he
  | some g =>
    have key : g.key = e.key := by simpa using List.find?_some found
    rw [List.inj_on_of_nodup_map keys (List.mem_of_find?_eq_some found) he key]

theorem State.lookup_eq_none {key : Option FlowKey} (h : ∀ k, key = some k → ∀ e ∈ s.flows, e.key ≠ k) :
    s.lookup key = none := by
  cases key with
  | none => rfl
  | some k => exact State.flowByKey_eq_none (h k rfl)

theorem State.lookup_of_mem {key : Option FlowKey} {e : FlowEntry} (keys : (s.flows.map FlowEntry.key).Nodup)
    (he : e ∈ s.flows) (hit : key = some e.key) : s.lookup key = some e := by
  rw [hit]; exact State.flowByKey_of_mem keys he

/-- A hit refreshes the one entry of its key (R163). -/
theorem State.hit_of_mem {e : FlowEntry} (keys : (s.flows.map FlowEntry.key).Nodup) (he : e ∈ s.flows) :
    s.hit e.key = { s with flows := s.flows.map fun g =>
      if g = e then { g with lastHit := some s.time, hits := g.hits + 1 } else g } := by
  have same : ∀ g ∈ s.flows, (g.key = e.key ↔ g = e) := fun g hg =>
    ⟨List.inj_on_of_nodup_map keys hg he, fun h => h ▸ rfl⟩
  unfold State.hit
  congr 1
  exact List.map_congr_left fun g hg => by simp only [same g hg]

theorem octetsValue_singleton (b : Byte) : octetsValue [b] = b.toNat := by simp [octetsValue]

/-- The tag's control field keeps its lower five bits, where there is one: a tagged frame has it (R166). -/
theorem fieldAt_one (bs : List Byte) (n : Nat) (h : n < bs.length) : fieldAt bs n 1 = (bs.getD n 0).toNat := by
  unfold fieldAt
  rw [List.drop_eq_getElem_cons h, List.take_succ_cons, List.take_zero, octetsValue_singleton]
  simp [h]

theorem setPriority_eq (bs : List Byte) (v : Nat) :
    setPriority bs v = bs.set 14 (BitVec.ofNat 8 (v * 32 + (bs.getD 14 0).toNat % 32)) := by
  unfold setPriority
  by_cases h : 14 < bs.length
  · rw [fieldAt_one bs 14 h]
  · rw [List.set_eq_of_length_le (by omega), List.set_eq_of_length_le (by omega)]

end

/-- Settles O9: a frame for no flow passes as it is; a hit refreshes its entry and may rewrite the tag. -/
theorem uplinkFrameIsForwarded : Obligations.UplinkFrameIsForwarded := by
  intro s f released up fcs length other
  have good := Frame.passes_of_good fcs length
  refine ⟨fun c command => ?_, fun bs room => ?_, fun bs full => ?_⟩
  · have taken : exec c s = .next ((s.classifyUplink f.bytes).1.queueUplink (s.classifyUplink f.bytes).2) := by
      rw [← State.receiveStation_forward up good other]
      rcases command with rfl | rfl
      · exact exec_uplinkFrame released f
      · exact exec_controlFrame released f
    rw [taken]
    refine ⟨fun missed => ?_, fun e he keys hit p priority => ?_⟩
    · simp only [State.classifyUplink, State.lookup_eq_none missed]
    · simp only [State.classifyUplink, State.lookup_of_mem keys he hit, State.hit_of_mem keys he, priority]
      cases p with
      | none => rfl
      | some v => simp only [setPriority_eq]
  · simp [State.queueUplink, forwardingFrames, room]
  · simp [State.queueUplink, forwardingFrames, Nat.not_lt.mpr full]

end Sys2Proof.Machine

/-! SUPPORT. A downlink frame that passes reception (R47, R118, R158, R163): its attribution to the oldest slot, the meter and
the downlink queue. -/

namespace Sys2Proof.Machine

/-- An entry granted before every other one is the oldest (R118). -/
theorem oldestOf_eq {now : Time} {p : SlotIx × Slot} {l : List (SlotIx × Slot)} (hp : p ∈ l)
    (first : ∀ q ∈ l, q = p ∨ (grantedBefore now p.2 q.2 = true ∧ grantedBefore now q.2 p.2 = false)) :
    oldestOf now l = some p := by
  have member : ∀ {l : List (SlotIx × Slot)} {q}, oldestOf now l = some q → q ∈ l := by
    intro l
    induction l with
    | nil => intro q h; cases h
    | cons a l ih =>
      intro q h
      unfold oldestOf at h
      split at h
      · cases h; exact List.mem_cons_self
      · next r hr =>
        split at h
        · cases h; exact List.mem_cons_of_mem _ (ih hr)
        · cases h; exact List.mem_cons_self
  induction l with
  | nil => cases hp
  | cons a l ih =>
    unfold oldestOf
    by_cases hl : p ∈ l
    · rw [ih hl fun q hq => first q (List.mem_cons_of_mem _ hq)]
      rcases first a List.mem_cons_self with rfl | ⟨before, -⟩
      · simp
      · simp [before]
    · obtain rfl : p = a := by simpa [hl] using hp
      cases hr : oldestOf now l with
      | none => rfl
      | some q =>
        rcases first q (List.mem_cons_of_mem _ (member hr)) with rfl | ⟨-, after⟩
        · exact absurd (member hr) hl
        · simp [after]

section
variable {s : State} {i : SessionIx}

theorem State.slotsOf_eq_nil (free : ∀ k x, s.slot k = some x → x.session ≠ i) : s.slotsOf i = [] :=
  List.eq_nil_iff_forall_not_mem.mpr fun ⟨k, x⟩ h => free k x (State.mem_slotsOf.mp h).1 (State.mem_slotsOf.mp h).2

theorem State.oldestSlot_eq {k : SlotIx} {x : Slot} (held : s.slot k = some x) (own : x.session = i)
    (first : ∀ m y, m ≠ k → s.slot m = some y → y.session = i → elapsed s.time y.grantTime < elapsed s.time x.grantTime ∨
      (elapsed s.time y.grantTime = elapsed s.time x.grantTime ∧ x.order < y.order)) : s.oldestSlot i = some (k, x) := by
  refine oldestOf_eq (State.mem_slotsOf.mpr ⟨held, own⟩) fun ⟨m, y⟩ hm => ?_
  obtain ⟨hy, owner⟩ := State.mem_slotsOf.mp hm
  by_cases h : m = k
  · subst h; rw [held] at hy; cases hy; exact .inl rfl
  · have earlier := first m y h hy owner
    refine .inr ?_
    simp only [grantedBefore, Bool.or_eq_true, Bool.and_eq_true, decide_eq_true_eq, Bool.or_eq_false_iff,
      Bool.and_eq_false_iff, decide_eq_false_iff_not]
    omega

theorem Slot.receive_phase (x : Slot) (now : Time) (n : Nat) : (x.receive now n).phase ≠ .granted := by
  unfold Slot.receive; cases x.phase <;> simp

end

/-- Settles O8: the frame is classified, its bytes attributed, then it is metered and queued. -/
theorem downlinkFrameIsAttributed : Obligations.DownlinkFrameIsAttributed := by
  rintro s f released up fcs length path meter hpath hmeter
  have received : exec (.downlinkFrame f) s = .next
      (((s.classifyDownlink f.bytes).meterFrame (countedLength f.bytes)).queueDownlink f.bytes) := by
    rw [exec_downlinkFrame released, State.receiveLine_good up (Frame.passes_of_good fcs length)]
  have forwarded : ∀ u : State, u.path.downlinkQueue = s.path.downlinkQueue → u.meter = s.meter →
      (u.meterFrame (countedLength f.bytes)).queueDownlink f.bytes = { u with
        meter := meter (if u.meterBusy then countedLength f.bytes else 0)
        path.downlinkQueue := if s.path.downlinkQueue.length < 32 then s.path.downlinkQueue ++ [f.bytes] else s.path.downlinkQueue
        path.downlinkDrops := if s.path.downlinkQueue.length < 32 then u.path.downlinkDrops else u.path.downlinkDrops + 1 } := by
    intro u queue same
    unfold State.meterFrame State.queueDownlink forwardingFrames
    rw [← queue, hmeter, ← same]
    cases u.meterBusy <;> by_cases room : u.path.downlinkQueue.length < 32 <;> simp only [room] <;> rfl
  rw [received, hpath]
  refine ⟨fun missed => ?_, fun e flows keys he hit hflows => ⟨fun k x held own first => ?_, fun free => ?_⟩⟩
  · unfold State.classifyDownlink
    rw [State.lookup_eq_none missed]
    refine congrArg Host.Outcome.next (forwarded _ ?_ ?_) <;> rfl
  · have oldest : (s.hit e.key).oldestSlot e.session = some (k, x) := State.oldestSlot_eq (s := s.hit e.key) held own first
    unfold State.classifyDownlink
    rw [State.lookup_of_mem keys he hit]
    simp only [State.attributeBytes, oldest]
    refine congrArg Host.Outcome.next ((forwarded _ ?_ ?_).trans ?_)
    · rfl
    · rfl
    have busy : ∀ g : Session → Session, State.meterBusy (((s.hit e.key).setSlot k
        (some (x.receive (s.hit e.key).time (countedLength f.bytes)))).modSession e.session g) = true := fun g =>
      State.meterBusy_iff _ |>.mpr ⟨up, k, _, State.setSlot_slot_self _ k _, Slot.receive_phase x _ _⟩
    rw [busy, State.hit_of_mem keys he, hflows]
    have credited : ∀ d : DrawState, d.credit s.windowDue (countedLength f.bytes) (!x.isReceiving) =
        if s.windowDue then { d with
          nextBytes := d.nextBytes + countedLength f.bytes, nextMark := d.nextMark || decide (x.phase = .granted) }
        else { d with
          windowBytes := d.windowBytes + countedLength f.bytes
          receivingMark := d.receivingMark || decide (x.phase = .granted) } := fun d => by
      unfold DrawState.credit Slot.isReceiving
      cases x.phase <;> simp
    simp only [credited]
    rfl
  · have none' : (s.hit e.key).oldestSlot e.session = none := by
      have := State.slotsOf_eq_nil (s := s.hit e.key) (i := e.session) free
      unfold State.oldestSlot; rw [this]; rfl
    unfold State.classifyDownlink
    rw [State.lookup_of_mem keys he hit]
    simp only [State.attributeBytes, none']
    refine congrArg Host.Outcome.next ((forwarded _ ?_ ?_).trans ?_)
    · rfl
    · rfl
    rw [State.hit_of_mem keys he, hflows]
    rfl

end Sys2Proof.Machine

/-! SUPPORT. What answering a note does to its batch and to the report queue (R160, R170): where the batch stands behind it, and
which frame holds its reply and those to the unreadable notes behind it. -/

namespace Sys2Proof.Machine

/-- The replies to unreadable notes, from a position on: MALFORMED, each at its own position and under its type where the frame
held one (R170). -/
def AnswersUnreadable (position : Nat) (notes : List RawNote) (bad : List Reply) : Prop :=
  bad.length = notes.length ∧ ∀ k m q, notes[k]? = some m → bad[k]? = some q → q.position = position + k ∧
    q.code = .malformed ∧ q.detail = none ∧ q.payload = none ∧ ∀ ty, m.noteType = some ty → q.noteType = ty

theorem AnswersUnreadable.nil (position : Nat) : AnswersUnreadable position [] [] := ⟨rfl, by simp⟩

theorem AnswersUnreadable.cons {position : Nat} {m : RawNote} {notes : List RawNote} {bad : List Reply} (s : State)
    (h : AnswersUnreadable (position + 1) notes bad) :
    AnswersUnreadable position (m :: notes) (s.unreadableReply position m :: bad) := by
  refine ⟨by simp [h.1], fun k n q hn hq => ?_⟩
  cases k with
  | zero =>
    obtain rfl : m = n := by simpa using hn
    obtain rfl : s.unreadableReply position m = q := by simpa using hq
    exact ⟨rfl, rfl, rfl, rfl, fun ty h => by simp [State.unreadableReply, h]⟩
  | succ k =>
    obtain ⟨place, rest⟩ := h.2 k n q (by simpa using hn) (by simpa using hq)
    exact ⟨by omega, rest⟩

/-- A batch's reply progress once a reply of it has been tried on a queue of a length (R160). -/
def ReplyProgress.tried (p : ReplyProgress) (length : Nat) : ReplyProgress :=
  match p with
  | .begun => .begun
  | .dropped => .dropped
  | .notBegun => if length < 8 then .begun else .dropped

/-- The queue after a reply of a batch (R160, R171). -/
def State.queueWith (s : State) (b : Batch) (r : Reply) : List ReportFrame :=
  match b.reply with
  | .begun => appendReply (.reply r) s.path.reportQueue
  | .dropped => s.path.reportQueue
  | .notBegun =>
    if s.path.reportQueue.length < 8 then s.path.reportQueue ++
      [{ isReply := true, batch := b.number, dest := s.replyDest b, isOpen := true, resetReply := false, notes := [.reply r] }]
    else s.path.reportQueue

/-- The replies that a queue takes from a batch whose reply frame stands as given. -/
def takeReplies (p : ReplyProgress) (q : List ReportFrame) (rs : List Reply) : List ReportFrame :=
  match p with
  | .begun => rs.foldl (fun q r => appendReply (.reply r) q) q
  | .notBegun | .dropped => q

section
variable {s : State} {b : Batch}

theorem State.addReply_batch (hb : s.control.batch = some b) (r : Reply) :
    (s.addReply r).control.batch = some { b with reply := b.reply.tried s.path.reportQueue.length } := by
  obtain ⟨source, number, position, rest, statusNotes, reply⟩ := b
  unfold State.addReply State.beginReport reportQueueFrames ReplyProgress.tried
  rw [hb]
  cases reply
  · by_cases room : s.path.reportQueue.length < 8 <;> simp [room]
  · exact hb
  · exact hb

theorem State.addReply_queue (hb : s.control.batch = some b) (r : Reply) :
    (s.addReply r).path.reportQueue = s.queueWith b r := by
  obtain ⟨source, number, position, rest, statusNotes, reply⟩ := b
  unfold State.addReply State.beginReport reportQueueFrames State.queueWith
  rw [hb]
  cases reply
  · by_cases room : s.path.reportQueue.length < 8 <;> simp [room, State.dropReportNote]
  · rfl
  · rfl

theorem ReplyProgress.tried_ne (p : ReplyProgress) (n : Nat) : p.tried n ≠ .notBegun := by
  unfold ReplyProgress.tried; cases p <;> simp; split <;> simp

/-- Unreadable notes behind the one answered are answered in turn; the batch then stands behind them. -/
theorem State.answerUnreadable_spec (l : List RawNote) {s : State} {b : Batch} (hb : s.control.batch = some b)
    (hr : b.reply ≠ .notBegun) : ∃ bad, AnswersUnreadable b.position (l.takeWhile fun r => !r.readable) bad ∧
      (State.answerUnreadable l s).control.batch =
        some { b with position := b.position + bad.length, rest := b.rest.drop bad.length } ∧
      (State.answerUnreadable l s).path.reportQueue = takeReplies b.reply s.path.reportQueue bad := by
  induction l generalizing s b with
  | nil => exact ⟨[], .nil _, by simpa [State.answerUnreadable] using hb, by cases h : b.reply <;> rfl⟩
  | cons m l ih =>
    unfold State.answerUnreadable
    cases hm : m.readable with
    | true => exact ⟨[], by simpa [hm] using AnswersUnreadable.nil _, by simpa using hb, by cases h : b.reply <;> rfl⟩
    | false =>
      simp only [Bool.false_eq_true, if_false, hb]
      have tried : ∀ n, b.reply.tried n = b.reply := fun n => by unfold ReplyProgress.tried; cases h : b.reply <;> simp_all
      have batch : (s.addReply (s.unreadableReply b.position m)).advanceBatch.control.batch =
          some { b with position := b.position + 1, rest := b.rest.tail } := by
        simp [State.advanceBatch, State.addReply_batch hb, tried]
      obtain ⟨bad, answers, behind, queue⟩ := ih (s := { (s.addReply (s.unreadableReply b.position m)).advanceBatch with
        choices := if m.noteType.isSome then (s.addReply (s.unreadableReply b.position m)).advanceBatch.choices
          else (s.addReply (s.unreadableReply b.position m)).advanceBatch.choices + 1 }) batch hr
      refine ⟨s.unreadableReply b.position m :: bad, ?_, ?_, ?_⟩
      · simpa [hm] using answers.cons s
      · rw [behind, List.length_cons, List.drop_tail, Nat.add_assoc, Nat.add_comm 1]
      · rw [queue]
        have first : (s.addReply (s.unreadableReply b.position m)).advanceBatch.path.reportQueue =
            s.queueWith b (s.unreadableReply b.position m) := State.addReply_queue hb _
        simp only [first, takeReplies, State.queueWith]
        cases h : b.reply <;> simp_all

/-- A batch ends when no note is left, and its reply frame then closes (R170). -/
theorem State.endIfDone_spec (hb : s.control.batch = some b) :
    s.endIfDone.control.batch = (if b.rest = [] then none else some b) ∧
    s.endIfDone.path.reportQueue =
      s.path.reportQueue.map fun f => { f with isOpen := f.isOpen && s.endIfDone.control.batch.isSome } := by
  by_cases h : b.rest = []
  · have ends : s.endIfDone = s.endBatch := by simp [State.endIfDone, hb, h]
    simp [ends, h, State.endBatch]
  · have stays : s.endIfDone = s := by simp [State.endIfDone, hb, h]
    simp [stays, h, hb]

/-- What answering a note leaves of its batch and of the report queue (R160, R170). -/
theorem State.answer_spec (hb : s.control.batch = some b) (ty : Byte) (a : Answer) :
    ∃ bad, AnswersUnreadable (b.position + 1) b.unreadable bad ∧
      (s.answer ty a).control.batch = (if b.rest.tail.drop bad.length = [] then none else some { b with
        position := b.position + 1 + bad.length, rest := b.rest.tail.drop bad.length
        reply := b.reply.tried s.path.reportQueue.length }) ∧
      (s.answer ty a).path.reportQueue = (takeReplies (b.reply.tried s.path.reportQueue.length)
        (s.queueWith b { position := b.position, noteType := ty, code := a.code, detail := a.detail, payload := a.payload })
        bad).map fun f => { f with isOpen := f.isOpen && (s.answer ty a).control.batch.isSome } := by
  have batch : (s.addReply { position := b.position, noteType := ty, code := a.code, detail := a.detail, payload := a.payload
      }).advanceBatch.control.batch = some { b with
        position := b.position + 1, rest := b.rest.tail, reply := b.reply.tried s.path.reportQueue.length } := by
    simp [State.advanceBatch, State.addReply_batch hb]
  obtain ⟨bad, answers, behind, queue⟩ := State.answerUnreadable_spec b.rest.tail batch (ReplyProgress.tried_ne _ _)
  obtain ⟨ends, closes⟩ := State.endIfDone_spec behind
  have whole : s.answer ty a = (State.answerUnreadable b.rest.tail (s.addReply { position := b.position, noteType := ty
                                                                                 code := a.code, detail := a.detail
                                                                                 payload := a.payload }).advanceBatch).endIfDone := by
    unfold State.answer; rw [hb]
  rw [whole]
  refine ⟨bad, answers, ends, ?_⟩
  rw [closes, queue]
  have first : (s.addReply { position := b.position, noteType := ty, code := a.code, detail := a.detail
                             payload := a.payload }).advanceBatch.path.reportQueue = _ := State.addReply_queue hb _
  rw [first]

end

/-! The report queue's frames: a reply joins the first open one, and notes of the part's own accord leave reply frames as they
are. -/

/-- Replies to a batch whose frame is the first open one of the queue join it, one behind the other. -/
theorem foldl_appendReply (rs : List Reply) (before behind : List ReportFrame) (f : ReportFrame)
    (closed : ∀ h ∈ before, h.isOpen = false) (opened : f.isOpen = true) :
    rs.foldl (fun q r => appendReply (.reply r) q) (before ++ f :: behind) =
      before ++ { f with notes := f.notes ++ rs.map OutNote.reply } :: behind := by
  induction rs generalizing f with
  | nil => simp
  | cons r rs ih =>
    rw [List.foldl_cons, appendReply_joins _ _ _ _ closed opened]
    refine (ih { f with notes := f.notes ++ [.reply r] } opened).trans ?_
    simp

theorem OriginateStep.length_le {q r : List ReportFrame} (h : OriginateStep q r) : q.length ≤ r.length := by
  cases h <;> simp

theorem Originated.length_le {q r : List ReportFrame} (h : Originated q r) : q.length ≤ r.length := by
  induction h with
  | refl => exact Nat.le_refl _
  | tail _ step ih => exact ih.trans step.length_le

/-- A reply frame of the queue stays where it is, with every frame before it. -/
theorem Originated.keeps_reply {before behind r : List ReportFrame} {f : ReportFrame} (h : Originated (before ++ f :: behind) r)
    (reply : f.isReply = true) : ∃ further, r = before ++ f :: further := by
  induction h with
  | refl => exact ⟨behind, rfl⟩
  | tail _ step ih =>
    obtain ⟨further, rfl⟩ := ih
    generalize hq : before ++ f :: further = q at step
    cases step with
    | begins _ g => subst hq; exact ⟨further ++ [g], by simp⟩
    | joins q g n takes own =>
      rcases further.eq_nil_or_concat' with rfl | ⟨init, last, rfl⟩
      · obtain ⟨-, rfl⟩ : before = q ∧ f = g := by simpa using List.append_inj' hq rfl
        simp [ReportFrame.takesOriginated, reply] at takes
      · have split : (before ++ f :: init) ++ [last] = q ++ [g] := by simpa using hq
        obtain ⟨rfl, -⟩ := List.append_inj' split rfl
        exact ⟨init ++ [{ g with notes := g.notes ++ [n] }], by simp⟩

theorem Originated.closed {q r : List ReportFrame} (h : Originated q r) (closed : ∀ f ∈ q, f.isOpen = false) :
    ∀ f ∈ r, f.isOpen = false := by
  induction h with
  | refl => exact closed
  | tail _ step ih => cases step <;> simp_all [or_imp, forall_and]

/-- Every REPLY of the queue was in it before. -/
theorem Originated.replies {q r : List ReportFrame} (h : Originated q r) {f : ReportFrame} (hf : f ∈ r) {m : Reply}
    (hm : OutNote.reply m ∈ f.notes) : ∃ g ∈ q, OutNote.reply m ∈ g.notes := by
  induction h generalizing f with
  | refl => exact ⟨f, hf, hm⟩
  | tail _ step ih =>
    cases step with
    | begins q g room own closed bare =>
      rcases List.mem_append.mp hf with h | h
      · exact ih h hm
      · rw [List.mem_singleton.mp h] at hm; exact absurd hm (bare m)
    | joins q g n takes own =>
      rcases List.mem_append.mp hf with h | h
      · exact ih (List.mem_append_left _ h) hm
      · rw [List.mem_singleton.mp h] at hm
        rcases List.mem_append.mp hm with h | h
        · exact ih (List.mem_append_right _ List.mem_cons_self) h
        · exact absurd (List.mem_singleton.mp h).symm (own m)

end Sys2Proof.Machine

/-! SUPPORT. The note commands, all in one form: a note is taken by its claim check and its body, a status note clears behind its
reply, and CLAIM and DEVICE RESET have ways of their own (R170 to R176). -/

namespace Sys2Proof.Machine

/-- The notes whose body is their whole meaning, with the type each is answered under. -/
def plainNote : Instr → Option (Byte × (State → State × Answer))
  | .setup note => some (2, fun s =>
      match note with
      | none => refuseWith s .malformed
      | some n => (s.applySetup n, Answer.done (n.clamped s.setup)))
  | .linkRestart note => some (5, fun s => bare note s s.reSeed)
  | .openSession i => some (7, fun s => s.openBody i)
  | .sessionReset i => some (8, fun s => s.resetBody i)
  | .closeSession i => some (9, fun s => s.closeBody i)
  | .untether i => some (11, fun s => s.untetherBody i)
  | .rearm i => some (12, fun s => s.rearmBody i)
  | .profile n => some (13, fun s => s.profileBody n)
  | .ladderLoad n => some (14, fun s => s.ladderBody n)
  | .tether n => some (15, fun s => s.tetherBody n)
  | .flowBind n => some (16, fun s => s.flowBindBody n)
  | .flowUnbind n => some (17, fun s => s.flowUnbindBody n)
  | .askFetch n => some (18, fun s => s.askBody n)
  | .doneFetch n => some (19, fun s => s.doneBody n)
  | .abortFetch n => some (20, fun s => s.abortBody n)
  | .play n => some (21, fun s => s.playBody n)
  | _ => none

/-- The status notes, with the type each is answered under, what it answers, and what it clears behind its reply. -/
def statusNote : Instr → Option (Byte × (State → Except ReplyCode (List Byte)) × (State → State))
  | .deviceStatus note => some (3, fun s => barePayload note s.devicePayload, State.clearDeviceCauses)
  | .linkSnapshot note => some (4, fun s => barePayload note s.snapshotPayload, State.openInterval)
  | .sessionStatus i => some (10, fun s => s.judgeStatus i, fun t => t.clearNamed i)
  | _ => none

section
variable {c : Instr} {s : State} {b : Batch} {ty : Byte}

theorem exec_plainNote {body : State → State × Answer} (note : plainNote c = some (ty, body))
    (taking : s.takingBatch = some b) : exec c s = .next (s.takeNote ty false b (body s)) := by
  cases c <;> cases note
  case setup note => cases note <;> simp only [exec, execSetup, taking]
  all_goals
    simp only [exec, execLinkRestart, execOpenSession, execSessionReset, execCloseSession, execUntether, execRearm,
      execProfile, execLadderLoad, execTether, execFlowBind, execFlowUnbind, execAskFetch, execDoneFetch, execAbortFetch,
      execPlay, taking]

theorem exec_statusNote {judged : State → Except ReplyCode (List Byte)} {after : State → State}
    (note : statusNote c = some (ty, judged, after)) (taking : s.takingBatch = some b) :
    exec c s = .next (s.takeStatus ty b (judged s) after) := by
  cases c <;> cases note <;> simp only [exec, execDeviceStatus, execLinkSnapshot, execSessionStatus, taking]

theorem exec_claim (taking : s.takingBatch = some b) (part : Option Addr) :
    exec (.claim part) s = .next (s.takeClaim b part) := by
  simp only [exec, execClaim, taking]

theorem exec_deviceReset (taking : s.takingBatch = some b) (note : Option Unit) :
    exec (.deviceReset note) s = .next (s.takeDeviceReset b note) := by
  simp only [exec, execDeviceReset, taking]

theorem exec_unknownNote (taking : s.takingBatch = some b) (ty : Byte) :
    exec (.unknownNote ty) s = .next (s.answer ty { code := .unknownNote }) := by
  simp only [exec, execUnknownNote, taking]

theorem State.takingBatch_of_executing (released : s.resetAsserted = false) (executing : s.control.batch = some b) :
    s.takingBatch = some b := by
  simp [State.takingBatch, released, executing]

/-- The four kinds of note commands. -/
theorem noteTypeOf_cases (h : noteTypeOf c = some ty) :
    (∃ part, c = .claim part ∧ ty = 1) ∨ (∃ note, c = .deviceReset note ∧ ty = 6) ∨
    (∃ body, plainNote c = some (ty, body)) ∨ ∃ judged after, statusNote c = some (ty, judged, after) := by
  cases c <;> cases h <;> simp [plainNote, statusNote]

/-- A plain note's body leaves the state or has the note's effect. -/
theorem plainNote_acts {body : State → State × Answer} (note : plainNote c = some (ty, body)) :
    (body s).1 = s ∨ Effect s c (body s).1 := by
  cases c <;> cases note
  case setup note => cases note with
    | none => exact .inl rfl
    | some n => exact .inr (.setup n)
  case linkRestart note => cases note with
    | none => exact .inl rfl
    | some n => exact .inr .linkRestart
  case openSession i => exact openBody_acts s i
  case sessionReset i => exact resetBody_acts s i
  case closeSession i => exact closeBody_acts s i
  case untether i => exact untetherBody_acts s i
  case rearm i => exact rearmBody_acts s i
  case profile n => exact profileBody_acts s n
  case ladderLoad n => exact ladderBody_acts s n
  case tether n => exact tetherBody_acts s n
  case flowBind n => exact flowBindBody_acts s n
  case flowUnbind n => exact flowUnbindBody_acts s n
  case askFetch n => exact askBody_acts s n
  case doneFetch n => exact doneBody_acts s n
  case abortFetch n => exact abortBody_acts s n
  case play n => exact playBody_acts s n

/-- The control note unit stands, and the report queue takes only notes of the part's own accord. -/
structure ReportsKept (s t : State) : Prop where
  control : t.control = s.control
  reports : Originated s.path.reportQueue t.path.reportQueue

theorem GateWork.reportsKept {s t : State} (w : GateWork s t) (q : QueuesKept s t) : ReportsKept s t :=
  ⟨by rw [w], q.reports⟩

theorem State.queueAsk_reports (s : State) (i : SessionIx) (n : AskNote) :
    Originated s.path.reportQueue (s.queueAsk i n).path.reportQueue := by
  unfold State.queueAsk
  extract_lets flushed
  have released := (s.modSession_records i fun x => x.anchorAt s.time 0).queues.trans (State.releaseSlots_queues _ i)
  have kept : QueuesKept s flushed := .ite (released.trans (State.tellFlush_records _ i).queues) (.refl s)
  have examined : ∀ u : State, u.path = flushed.path → Originated flushed.path.reportQueue u.examine.path.reportQueue :=
    fun u hu => hu ▸ u.examine_queues.reports
  exact .trans kept.reports (examined _ rfl)

theorem State.applySetup_reportsKept (s : State) (n : SetupNote) : ReportsKept s (s.applySetup n) := by
  unfold State.applySetup
  extract_lets u set trimmed shared
  have ht : trimmed.control = s.control ∧ trimmed.path = s.path := by
    unfold trimmed; split
    · exact ⟨rfl, rfl⟩
    · rw [State.removeIdle_eq]; exact ⟨rfl, rfl⟩
  have hh : SharesOnly trimmed shared := .ite (.refl _) trimmed.recompute_shares
  have he : ReportsKept trimmed (if u.maxOutstanding = s.setup.maxOutstanding then shared else shared.examine) :=
    GateWork.reportsKept (.ite hh.gate (hh.gate.trans shared.examine_gateWork)) (.ite hh.queues (hh.queues.trans shared.examine_queues))
  exact ⟨he.control.trans ht.1, ht.2 ▸ he.reports⟩

/-- A plain note's effect keeps the control note unit and takes only notes of the part's own accord into the report queue. -/
theorem Effect.reportsKept {e : State} {body : State → State × Answer} (he : Effect s c e)
    (note : plainNote c = some (ty, body)) : ReportsKept s e := by
  have effect := he
  cases he with
  | setup n => exact s.applySetup_reportsKept n
  | linkRestart => unfold State.reSeed; rw [State.recompute_shares]; exact ⟨rfl, .refl⟩
  | closeSession i =>
    obtain ⟨control, reports⟩ := GateWork.reportsKept (State.resetSession_gateWork (s.removeFlows i) i .vacant)
      (State.resetSession_queues _ i _)
    exact ⟨control, reports⟩
  | flowBind | flowUnbind => exact ⟨rfl, .refl⟩
  | askFetch n i => exact ⟨by rw [s.queueAsk_gateWork i n], s.queueAsk_reports i n⟩
  | openSession | sessionReset | prime | reprofile | stage | publish | tether | untether | rearm | doneFetch | doneLate |
      abortFetch | abortLate | play => exact GateWork.reportsKept (effect.gateWork rfl) (effect.queuesKept rfl fun _ => nofun)
  | _ => cases note

/-- The step from s to t answers the batch's next note with a, from the state e that the note's effects leave. -/
structure AnswersNext (s t : State) (b : Batch) (ty : Byte) (e : State) (a : Answer) : Prop where
  batch : ∃ n, e.control.batch = some { b with statusNotes := n }
  before : Originated s.path.reportQueue e.path.reportQueue
  progress : t.control.batch = (e.answer ty a).control.batch
  claim : t.control.claim = e.control.claim
  behind : Originated (e.answer ty a).path.reportQueue t.path.reportQueue

theorem State.compareAttention_kept (t : State) : t.compareAttention.control.batch = t.control.batch ∧
    t.compareAttention.control.claim = t.control.claim := by
  rw [t.compareAttention_announced]; exact ⟨rfl, rfl⟩

theorem State.answer_claim (s : State) (ty : Byte) (a : Answer) : (s.answer ty a).control.claim = s.control.claim :=
  (congrArg (fun u : State => u.control.claim) (s.answer_apart ty a) :)

theorem AnswersNext.of_answer {n : Nat} (hb : s.control.batch = some { b with statusNotes := n }) (a : Answer) :
    AnswersNext s (s.answer ty a) b ty s a :=
  ⟨⟨n, hb⟩, .refl, rfl, s.answer_claim ty a, .refl⟩

theorem AnswersNext.compared {t e : State} {a : Answer} (h : AnswersNext s t b ty e a) :
    AnswersNext s t.compareAttention b ty e a :=
  ⟨h.batch, h.before, t.compareAttention_kept.1.trans h.progress, t.compareAttention_kept.2.trans h.claim,
    h.behind.trans t.compareAttention_queues.reports⟩

theorem AnswersNext.settled {t e : State} {a : Answer} (h : AnswersNext s t b ty e a) (u : State) :
    AnswersNext s (settle u t) b ty e a := by
  unfold settle; split
  · exact h
  · exact h.compared

/-- A status note's clearing leaves the control note unit's batch and claim, and the report queue. -/
theorem statusNote_after {judged : State → Except ReplyCode (List Byte)} {after : State → State}
    (note : statusNote c = some (ty, judged, after)) (t : State) : (after t).control.batch = t.control.batch ∧
      (after t).control.claim = t.control.claim ∧ (after t).path = t.path := by
  cases c <;> cases note
  case sessionStatus i => unfold State.clearNamed; split <;> exact ⟨rfl, rfl, rfl⟩
  all_goals exact ⟨rfl, rfl, rfl⟩

/-- Every note command answers the batch's next note, but for an accepted DEVICE RESET. -/
theorem exec_answersNext (taking : s.takingBatch = some b) (hc : noteTypeOf c ≠ none ∨ ∃ ty, c = .unknownNote ty)
    (reset : c = .deviceReset (some ()) → s.claimCheck b false ≠ none) :
    ∃ t ty e a, exec c s = .next t ∧ (noteTypeOf c = some ty ∨ c = .unknownNote ty) ∧ AnswersNext s t b ty e a := by
  have executing : s.control.batch = some { b with statusNotes := b.statusNotes } := by
    unfold State.takingBatch at taking; split at taking
    · cases taking
    · exact taking
  have refused : ∀ ty a, AnswersNext s (s.answer ty a) b ty s a := fun ty a => .of_answer executing a
  rcases hc with hc | ⟨ty, rfl⟩
  · obtain ⟨ty, hty⟩ := Option.ne_none_iff_exists'.mp hc
    rcases noteTypeOf_cases hty with ⟨part, rfl, rfl⟩ | ⟨note, rfl, rfl⟩ | ⟨body, plain⟩ | ⟨judged, after, status⟩
    · rw [exec_claim taking]
      unfold State.takeClaim
      split
      · exact ⟨_, _, _, _, rfl, .inl rfl, refused _ _⟩
      split
      · exact ⟨_, _, _, _, rfl, .inl rfl, refused _ _⟩
      · next a _ =>
        have claimed := AnswersNext.of_answer (s := s.setClaim b a) (ty := 1) executing (Answer.done false)
        exact ⟨_, _, _, _, rfl, .inl rfl, AnswersNext.compared ⟨claimed.batch, .refl, rfl, claimed.claim, .refl⟩⟩
    · rw [exec_deviceReset taking]
      unfold State.takeDeviceReset
      split
      · exact ⟨_, _, _, _, rfl, .inl rfl, refused _ _⟩
      · next passes =>
        split
        · exact ⟨_, _, _, _, rfl, .inl rfl, refused _ _⟩
        · exact absurd passes (reset rfl)
    · suffices ∃ e a, AnswersNext s (s.takeNote ty false b (body s)) b ty e a by
        obtain ⟨e, a, h⟩ := this
        exact ⟨_, ty, e, a, exec_plainNote plain taking, .inl hty, h⟩
      unfold State.takeNote
      split
      · exact ⟨_, _, refused _ _⟩
      · have kept : ReportsKept s (body s).1 := by
          rcases plainNote_acts (s := s) plain with h | h
          · rw [h]; exact ⟨rfl, .refl⟩
          · exact h.reportsKept plain
        have batch : (body s).1.control.batch = some { b with statusNotes := b.statusNotes } := by rw [kept.control, executing]
        have answered := AnswersNext.of_answer (ty := ty) batch (body s).2
        exact ⟨_, _, .settled ⟨answered.batch, kept.reports, rfl, answered.claim, .refl⟩ s⟩
    · suffices ∃ a, AnswersNext s (s.takeStatus ty b (judged s) after) b ty s.countStatus a by
        obtain ⟨a, h⟩ := this
        exact ⟨_, ty, _, a, exec_statusNote status taking, .inl hty, h⟩
      have counted : ∀ a, AnswersNext s (s.countStatus.answer ty a) b ty s.countStatus a := fun a => by
        have answered := AnswersNext.of_answer (s := s.countStatus) (ty := ty) (b := b) (n := b.statusNotes + 1)
          (by simp [State.countStatus, executing]) a
        exact ⟨answered.batch, .refl, rfl, answered.claim, .refl⟩
      unfold State.takeStatus
      extract_lets
      split
      · exact ⟨_, counted _⟩
      split
      · exact ⟨_, counted _⟩
      split
      · exact ⟨_, counted _⟩
      · next p _ =>
        obtain ⟨batch, claim, path⟩ := statusNote_after status (s.countStatus.answer ty { code := .accepted, payload := some p })
        have h := counted { code := .accepted, payload := some p }
        exact ⟨_, .settled ⟨h.batch, h.before, batch, claim.trans h.claim, path ▸ .refl⟩ s⟩
  · rw [exec_unknownNote taking]
    exact ⟨_, _, _, _, rfl, .inr rfl, refused _ _⟩

end

end Sys2Proof.Machine

/-! SUPPORT. Batches in execution (R160, R170, R171, R175): every note is answered in its turn, a batch begins, and a DEVICE RESET
ends one. -/

namespace Sys2Proof.Machine

/-- The reply that an answer gives to a batch's next note. -/
def Answer.reply (a : Answer) (b : Batch) (ty : Byte) : Reply :=
  { position := b.position, noteType := ty, code := a.code, detail := a.detail, payload := a.payload }

/-- Closing the frames of a batch that ends leaves closed frames as they are. -/
theorem map_isOpen_of_closed {q : List ReportFrame} (closed : ∀ f ∈ q, f.isOpen = false) (b : Bool) :
    q.map (fun f => { f with isOpen := f.isOpen && b }) = q := by
  conv_rhs => rw [← List.map_id q]
  exact List.map_congr_left fun f hf => by
    obtain ⟨isReply, number, dest, isOpen, resetReply, notes⟩ := f
    have := closed _ hf
    simp_all

section
variable {s t e : State} {b : Batch} {ty : Byte} {a : Answer} {bad : List Reply}

/-- What is left of the batch behind the note answered and the unreadable ones behind that. -/
structure LeavesBatch (t e : State) (b : Batch) (bad : List Reply) : Prop where
  ended : b.rest.tail.drop bad.length = [] → t.control.batch = none
  further : b.rest.tail.drop bad.length ≠ [] → ∃ b', t.control.batch = some b' ∧ b'.position = b.position + 1 + bad.length ∧
    b'.rest = b.rest.tail.drop bad.length ∧ b'.source = b.source ∧ b'.number = b.number
  reply : ∀ b', t.control.batch = some b' → b'.reply = b.reply.tried e.path.reportQueue.length

/-- The queue right behind the answer, when the batch's reply frame stands as it was tried. -/
def AnswerQueue (t e : State) (b : Batch) (ty : Byte) (a : Answer) (bad : List Reply) : List ReportFrame :=
  (takeReplies (b.reply.tried e.path.reportQueue.length) (e.queueWith b (a.reply b ty)) bad).map fun f =>
    { f with isOpen := f.isOpen && t.control.batch.isSome }

theorem AnswersNext.spec (h : AnswersNext s t b ty e a) : ∃ bad, AnswersUnreadable (b.position + 1) b.unreadable bad ∧
    LeavesBatch t e b bad ∧ Originated (AnswerQueue t e b ty a bad) t.path.reportQueue := by
  obtain ⟨⟨n, batch⟩, before, progress, claim, behind⟩ := h
  obtain ⟨bad, unreadable, left, queue⟩ := State.answer_spec batch ty a
  rw [← progress] at left queue
  refine ⟨bad, unreadable, ⟨fun done => ?_, fun more => ?_, fun b' standing => ?_⟩, ?_⟩
  · rw [left]; exact if_pos done
  · rw [left]; exact ⟨_, if_neg more, rfl, rfl, rfl, rfl⟩
  · rw [left] at standing; split at standing
    · cases standing
    · cases standing; rfl
  · rw [queue] at behind; exact behind

/-- A batch whose reply frame is open has its replies there, in position order (R160). -/
theorem AnswersNext.joins (h : AnswersNext s t b ty e a) (behind : Originated (AnswerQueue t e b ty a bad) t.path.reportQueue)
    (begun : b.reply = .begun) {front rest : List ReportFrame} {f : ReportFrame} (split : s.path.reportQueue = front ++ f :: rest)
    (opened : f.isOpen = true) (reply : f.isReply = true) (closed : ∀ g ∈ front, g.isOpen = false) :
    ∃ further, t.path.reportQueue = front ++ { f with
      notes := f.notes ++ (a.reply b ty :: bad).map OutNote.reply, isOpen := t.control.batch.isSome } :: further := by
  obtain ⟨further, queue⟩ := (split ▸ h.before).keeps_reply reply
  have joined : AnswerQueue t e b ty a bad = front ++ { f with
      notes := f.notes ++ (a.reply b ty :: bad).map OutNote.reply, isOpen := t.control.batch.isSome } ::
        further.map fun g => { g with isOpen := g.isOpen && t.control.batch.isSome } := by
    unfold AnswerQueue State.queueWith
    simp only [begun, ReplyProgress.tried, takeReplies, queue, appendReply_joins _ _ _ _ closed opened]
    rw [foldl_appendReply bad front further { f with notes := f.notes ++ [_] } closed opened]
    simp [map_isOpen_of_closed closed, opened]
  exact (joined ▸ behind).keeps_reply reply

/-- A batch's first reply begins its frame behind those queued, where the queue has room (R160, R171). -/
theorem AnswersNext.begins (h : AnswersNext s t b ty e a) (behind : Originated (AnswerQueue t e b ty a bad) t.path.reportQueue)
    (fresh : b.reply = .notBegun) (closed : ∀ f ∈ s.path.reportQueue, f.isOpen = false)
    (room : e.path.reportQueue.length < 8) : ∃ further, t.path.reportQueue = e.path.reportQueue ++
      { isReply := true, batch := b.number, dest := t.replyDest b, isOpen := t.control.batch.isSome, resetReply := false
        notes := (a.reply b ty :: bad).map OutNote.reply } :: further := by
  have shut := h.before.closed closed
  have dest : e.replyDest b = t.replyDest b := by unfold State.replyDest; rw [h.claim]
  have began : AnswerQueue t e b ty a bad = e.path.reportQueue ++ [{
      isReply := true, batch := b.number, dest := t.replyDest b, isOpen := t.control.batch.isSome, resetReply := false
      notes := (a.reply b ty :: bad).map OutNote.reply }] := by
    unfold AnswerQueue State.queueWith
    simp only [fresh, ReplyProgress.tried, takeReplies, room, if_true, dest]
    rw [foldl_appendReply bad _ [] _ shut rfl]
    simp [map_isOpen_of_closed shut]
  exact (began ▸ behind).keeps_reply rfl

theorem State.queueWith_of_dropped (tried : b.reply.tried s.path.reportQueue.length = .dropped) (r : Reply) :
    s.queueWith b r = s.path.reportQueue := by
  unfold State.queueWith
  unfold ReplyProgress.tried at tried
  cases reply : b.reply <;> simp_all

/-- A batch whose frame could not be begun queues no reply (R160). -/
theorem AnswersNext.drops (h : AnswersNext s t b ty e a) (behind : Originated (AnswerQueue t e b ty a bad) t.path.reportQueue)
    (tried : b.reply.tried e.path.reportQueue.length = .dropped) :
    e.path.reportQueue.length ≤ t.path.reportQueue.length ∧ ∀ f ∈ t.path.reportQueue, ∀ q, OutNote.reply q ∈ f.notes →
      ∃ g ∈ s.path.reportQueue, OutNote.reply q ∈ g.notes := by
  have kept : AnswerQueue t e b ty a bad =
      e.path.reportQueue.map fun f => { f with isOpen := f.isOpen && t.control.batch.isSome } := by
    rw [AnswerQueue, tried, State.queueWith_of_dropped tried]; rfl
  rw [kept] at behind
  refine ⟨(List.length_map _).symm.trans_le behind.length_le, fun f hf q hq => ?_⟩
  obtain ⟨g, hg, hqg⟩ := behind.replies hf hq
  obtain ⟨k, hk, rfl⟩ := List.mem_map.mp hg
  exact h.before.replies hk hqg

end

/-- Settles O15: exec_answersNext gives the state that answers, and AnswersNext.spec what its answer leaves. -/
theorem eachNoteIsTakenInTurn : Obligations.EachNoteIsTakenInTurn := by
  intro s b c released executing note reset
  have refused : c = .deviceReset (some ()) → s.claimCheck b false ≠ none := fun h => by
    have other := reset h
    unfold State.claimCheck
    cases hk : s.control.claim with
    | none => simp
    | some k =>
      rw [hk] at other
      have : b.source ≠ k.player := fun e => other (by simp [e])
      simp [this]
  obtain ⟨t, ty, e, a, taken, type, answers⟩ :=
    exec_answersNext (State.takingBatch_of_executing released executing) note refused
  obtain ⟨bad, unreadable, left, behind⟩ := answers.spec
  obtain ⟨count, replies⟩ := unreadable
  refine ⟨t, a.reply b ty, bad, taken, rfl, type, count, replies, ?_, ?_, fun begun => ⟨?_, ?_⟩, fun fresh closed => ?_,
    fun dropped => ⟨?_, ?_⟩⟩
  · intro m rest tail readable
    have none' : bad.length = 0 := by rw [count]; simp [Batch.unreadable, tail, readable]
    obtain ⟨b', batch, position, remaining, source, number⟩ := left.further (by simp [none', tail])
    exact ⟨b', batch, by omega, by simpa [none'] using remaining, source, number⟩
  · intro all
    have whole : b.unreadable = b.rest.tail := List.takeWhile_eq_self_iff.mpr fun m hm => by simp [all m hm]
    exact left.ended (by rw [count, whole, List.drop_length])
  · intro b' h; rw [left.reply b' h, begun]; rfl
  · exact fun front f rest split opened reply closed => answers.joins behind begun split opened reply closed
  · by_cases room : e.path.reportQueue.length < 8
    · obtain ⟨further, queue⟩ := answers.begins behind fresh closed room
      refine .inl ⟨_, further, fun b' h => ?_, room, answers.before.length_le, queue⟩
      simp [left.reply b' h, ReplyProgress.tried, fresh, room]
    · have tried : b.reply.tried e.path.reportQueue.length = .dropped := by simp [ReplyProgress.tried, fresh, room]
      obtain ⟨length, replies⟩ := answers.drops behind tried
      exact .inr ⟨by omega, fun b' h => (left.reply b' h).trans tried, replies⟩
  · intro b' h; rw [left.reply b' h, dropped]; rfl
  · exact (answers.drops behind (by rw [dropped]; rfl)).2

end Sys2Proof.Machine

/-! SUPPORT. Notes that are refused, and the status notes (R2, R3, R170 to R176): what they leave, and what becomes of their
reply. -/

namespace Sys2Proof.Machine

/-- The state t is v, or v with the top attention compared (R179). -/
def Compared (v t : State) : Prop := t = v ∨ t = v.compareAttention

theorem settle_compared (s v : State) : Compared v (settle s v) := by
  unfold settle; split
  · exact .inl rfl
  · exact .inr rfl

theorem settle_self (s : State) : settle s s = s := if_pos rfl

section
variable {e u v t : State}

theorem Compared.holds (h : Compared v t) {P : List OutNote → Prop} {n : BitVec 16} {d : Addr}
    (held : HoldsFrame P v.path.reportQueue n d) : HoldsFrame P t.path.reportQueue n d := by
  rcases h with rfl | rfl
  · exact held
  · exact State.compareAttention_holds held

theorem Compared.claim (h : Compared v t) : t.control.claim = v.control.claim := by
  rcases h with rfl | rfl
  · rfl
  · exact v.compareAttention_kept.2

theorem Compared.apart (h : Compared v t) : t.apartFromReports = v.apartFromReports := by
  rcases h with rfl | rfl
  · rfl
  · exact v.compareAttention_apart

theorem Compared.dropped (h : Compared v t) (sent : ∀ x, v.topAttention = some x → v.control.lastTop = some x) :
    t.path.reportNotesDropped = v.path.reportNotesDropped := by
  rcases h with rfl | rfl
  · rfl
  · unfold State.compareAttention
    split
    · rfl
    · next x hx => simp [sent x hx]

/-- What the replies and the comparison read of a state: the frame path, the claim and the last top attention sent. -/
structure SameReports (u v : State) : Prop where
  path : v.path = u.path
  claim : v.control.claim = u.control.claim
  lastTop : v.control.lastTop = u.control.lastTop

theorem SameReports.refl (u : State) : SameReports u u := ⟨rfl, rfl, rfl⟩

theorem State.addReply_dropped {s : State} {b : Batch} (hb : s.control.batch = some b)
    (tried : b.reply.tried s.path.reportQueue.length = .dropped) (r : Reply) :
    (s.addReply r).path.reportNotesDropped = s.path.reportNotesDropped + 1 := by
  obtain ⟨source, number, position, rest, statusNotes, reply⟩ := b
  unfold State.addReply State.beginReport reportQueueFrames
  unfold ReplyProgress.tried at tried
  rw [hb]
  cases reply
  · have full : ¬ s.path.reportQueue.length < 8 := by simpa using tried
    simp [full, State.dropReportNote]
  · cases tried
  · rfl

/-- The replies of a batch whose frame could not be begun are counted (R160). -/
theorem State.answer_dropped {s : State} {b : Batch} (hb : s.control.batch = some b)
    (tried : b.reply.tried s.path.reportQueue.length = .dropped) (ty : Byte) (a : Answer) :
    (s.answer ty a).path.reportNotesDropped = s.path.reportNotesDropped + BitVec.ofNat 32 (1 + b.unreadable.length) := by
  have batch : (s.addReply (a.reply b ty)).advanceBatch.control.batch = some { b with
      position := b.position + 1, rest := b.rest.tail, reply := .dropped } := by
    simp [State.advanceBatch, State.addReply_batch hb, tried]
  have whole : s.answer ty a = (State.answerUnreadable b.rest.tail (s.addReply (a.reply b ty)).advanceBatch).endIfDone := by
    unfold State.answer; rw [hb]; rfl
  have first : (s.addReply (a.reply b ty)).advanceBatch.path.reportNotesDropped = s.path.reportNotesDropped + 1 :=
    State.addReply_dropped hb tried _
  rw [whole, State.endIfDone_dropped, State.answerUnreadable_dropped _ batch rfl, first, BitVec.ofNat_add, BitVec.add_assoc]
  rfl

/-- What becomes of an answer's reply, when what follows it up to the comparison leaves the reports alone. -/
theorem State.Answered.of_answer {e₀ : State} {b : Batch} {n : Nat} {ty : Byte} {a : Answer}
    (hb : e₀.control.batch = some { b with statusNotes := n }) (start : SameReports e₀ e)
    (behind : SameReports (e₀.answer ty a) v) (top : e.topAttention = v.topAttention) (compared : Compared v t) :
    e.Answered t b (a.reply b ty) := by
  have base := State.answer_answered hb ty a (e₀.answer ty a)
  rw [settle_self] at base
  have claim : t.control.claim = (e₀.answer ty a).control.claim := compared.claim.trans behind.claim
  have dest : (e₀.answer ty a).replyDest { b with statusNotes := n } = t.replyDest b := by
    unfold State.replyDest; rw [claim]
  refine ⟨fun fresh room => ?_, fun begun before f rest split opened reply closed => ?_, fun lost sent => ?_⟩
  · have held := (State.replied_iff _ _ _).mp (base.begins fresh (start.path ▸ room))
    rw [dest, ← behind.path] at held
    exact (State.replied_iff _ _ _).mpr (compared.holds held)
  · have held : HoldsFrame (f.notes ++ [_] <+: ·) (e₀.answer ty a).path.reportQueue f.batch f.dest :=
      base.joins begun before f rest (start.path ▸ split) opened reply closed
    rw [← behind.path] at held
    exact compared.holds held
  · have last : v.control.lastTop = e.control.lastTop :=
      behind.lastTop.trans ((e₀.answer_lastTop ty a).trans start.lastTop.symm)
    rw [compared.dropped (by rw [← top, last]; exact sent), behind.path, State.answer_dropped hb (by
      rcases lost with h | ⟨h, full⟩
      · simp [h, ReplyProgress.tried]
      · have full : ¬ e₀.path.reportQueue.length < 8 := by rw [← start.path]; omega
        simp [h, ReplyProgress.tried, full]), start.path]
    rfl

end

section
variable {c : Instr} {s : State} {b : Batch} {ty : Byte}

/-- A note that is only answered changes nothing apart from reports. -/
theorem NoteDoes.of_answer {a : Answer} (taken : exec c s = .next (s.answer ty a)) (executing : s.control.batch = some b)
    (bare : a.payload = none) : NoteDoes c s b s ty a.code a.detail := by
  refine ⟨_, taken, s.answer_apart ty a, ?_⟩
  have := State.Answered.of_answer (n := b.statusNotes) executing (.refl s) (.refl (s.answer ty a))
    (State.topAttention_of_apart (s.answer_apart ty a)).symm (.inl rfl)
  rw [Answer.reply, bare] at this
  exact this

theorem State.countStatus_batch (executing : s.control.batch = some b) :
    s.countStatus.control.batch = some { b with statusNotes := b.statusNotes + 1 } := by
  simp [State.countStatus, executing]

/-- A status note that is refused changes nothing apart from reports. -/
theorem NoteDoes.of_countStatus {a : Answer} (taken : exec c s = .next (s.countStatus.answer ty a))
    (executing : s.control.batch = some b) (bare : a.payload = none) : NoteDoes c s b s ty a.code a.detail := by
  have apart : (s.countStatus.answer ty a).apartFromReports = s.apartFromReports := s.countStatus.answer_apart ty a
  refine ⟨_, taken, apart, ?_⟩
  have := State.Answered.of_answer (e₀ := s.countStatus) (e := s) (State.countStatus_batch executing)
    ⟨rfl, rfl, rfl⟩ (.refl (s.countStatus.answer ty a)) (State.topAttention_of_apart apart).symm (.inl rfl)
  rw [Answer.reply, bare] at this
  exact this

/-- A status note that is accepted clears behind its reply. -/
theorem Answers.of_status {e : State} {judged : State → Except ReplyCode (List Byte)} {after : State → State} {p : List Byte}
    (note : statusNote c = some (ty, judged, after)) (hears : s.Hears b) (limit : b.statusNotes < 2) (ok : judged s = .ok p)
    (cleared : after s = e)
    (clears : ∀ {u v : State}, u.apartFromReports = v.apartFromReports → (after u).apartFromReports = (after v).apartFromReports) :
    Answers c s b e { position := b.position, noteType := ty, code := .accepted, detail := none, payload := some p } := by
  have taken : exec c s = .next (settle s (after (s.countStatus.answer ty { code := .accepted, payload := some p }))) := by
    rw [exec_statusNote note hears.taking]
    simp [State.takeStatus, hears.check, Batch.statusFull, Nat.not_le.mpr limit, ok]
  subst cleared
  have kept : ∀ u : State, SameReports u (after u) := fun u => by
    obtain ⟨-, claim, path⟩ := statusNote_after note u
    refine ⟨path, claim, ?_⟩
    cases c <;> cases note
    case sessionStatus i => unfold State.clearNamed; split <;> rfl
    all_goals rfl
  have apart : (after (s.countStatus.answer ty { code := .accepted, payload := some p })).apartFromReports =
      (after s).apartFromReports := clears (s.countStatus.answer_apart ty _)
  refine ⟨_, taken, (settle_apart _ _).trans apart, ?_⟩
  obtain ⟨path, claim, lastTop⟩ := kept s
  exact State.Answered.of_answer (e₀ := s.countStatus) (State.countStatus_batch hears.executing)
    ⟨path, claim, lastTop⟩ (kept _) (State.topAttention_of_apart apart).symm (settle_compared s _)

end

/-- Settles O17: what each status note answers and clears. -/
theorem statusNotesReportAndClear : Obligations.StatusNotesReportAndClear := by
  intro s b hears limit
  refine ⟨?_, ?_, fun i opened => ?_⟩
  · exact Answers.of_status (c := .deviceStatus (some ())) rfl hears limit rfl rfl fun h => (congrArg State.clearDeviceCauses h :)
  · exact Answers.of_status (c := .linkSnapshot (some ())) rfl hears limit rfl rfl fun h => (congrArg State.openInterval h :)
  · have judged : s.judgeStatus (some i.val) = .ok (s.sessionPayload i) := by
      simp [State.judgeStatus, State.checkSession, sessionIx?_val, admission_anySession.mpr opened, Except.map]
    have kept : ∀ x : Session, keptCauses x = (if x.draw.phase = .latched then Cause.latched.bit else 0) |||
        (if x.buffer.freshness = .fresh then 0 else Cause.blind.bit) := fun x => by
      unfold keptCauses
      cases x.draw.phase <;> cases x.buffer.freshness <;> rfl
    refine Answers.of_status (c := .sessionStatus (some i.val)) rfl hears limit judged ?_ fun {u v} h => ?_
    · simp only [State.clearNamed, Option.bind_some, sessionIx?_val, State.clearCauses, kept]
    · simp only [State.clearNamed, Option.bind_some, sessionIx?_val]
      exact State.modSession_apart h i _

/-! Refusals. -/

section
variable {c : Instr} {s : State} {b : Batch} {ty : Byte}

/-- A claim check that refuses a note is its answer (R171). -/
theorem NoteDoes.of_claimCheck {code : ReplyCode} (note : noteTypeOf c = some ty) (taking : s.takingBatch = some b)
    (executing : s.control.batch = some b) (claim : s.claimCheck b (decide (ty = 1)) = some code) :
    NoteDoes c s b s ty code none := by
  rcases noteTypeOf_cases note with ⟨part, rfl, rfl⟩ | ⟨note, rfl, rfl⟩ | ⟨body, plain⟩ | ⟨judged, after, status⟩
  · refine NoteDoes.of_answer (a := { code := code }) ?_ executing rfl
    have claim : s.claimCheck b true = some code := claim
    rw [exec_claim taking, State.takeClaim, claim]
  · refine NoteDoes.of_answer (a := { code := code }) ?_ executing rfl
    have claim : s.claimCheck b false = some code := claim
    rw [exec_deviceReset taking]
    simp only [State.takeDeviceReset, claim]
  · have other : ty ≠ 1 := by cases c <;> cases plain <;> decide
    refine NoteDoes.of_answer (a := { code := code }) ?_ executing rfl
    rw [exec_plainNote plain taking, State.takeNote]
    simp only [other, decide_false] at claim
    rw [claim]
  · have other : ty ≠ 1 := by cases c <;> cases status <;> decide
    refine NoteDoes.of_countStatus (a := { code := code }) ?_ executing rfl
    rw [exec_statusNote status taking]
    simp only [other, decide_false] at claim
    simp [State.takeStatus, claim]

/-- A plain note of the player does what its body does, where that keeps the batch in execution. -/
theorem State.Hears.does {body : State → State × Answer} {e : State} {a : Answer} (hears : s.Hears b)
    (plain : plainNote c = some (ty, body)) (result : body s = (e, a)) (batch : e.control.batch = s.control.batch)
    (bare : a.payload = none) : NoteDoes c s b e ty a.code a.detail :=
  NoteDoes.of_takeNote (by rw [exec_plainNote plain hears.taking, result]) (hears.check false) (batch.trans hears.executing) bare

/-- A plain note of the player that its body refuses changes nothing. -/
theorem State.Hears.refuses {body : State → State × Answer} {code : ReplyCode} (hears : s.Hears b)
    (plain : plainNote c = some (ty, body)) (refused : body s = refuseWith s code) : NoteDoes c s b s ty code none :=
  hears.does plain refused rfl rfl

theorem State.Hears.refusesStatus {judged : State → Except ReplyCode (List Byte)} {after : State → State} {code : ReplyCode}
    (hears : s.Hears b) (status : statusNote c = some (ty, judged, after)) (limit : b.statusNotes < 2)
    (refused : judged s = .error code) : NoteDoes c s b s ty code none := by
  refine NoteDoes.of_countStatus (a := { code := code }) ?_ hears.executing rfl
  rw [exec_statusNote status hears.taking]
  simp [State.takeStatus, hears.check, Batch.statusFull, Nat.not_le.mpr limit, refused]

/-- A body refuses a note whose structure fails (R2, R22, R146). -/
theorem plainNote_malformed {body : State → State × Answer} (plain : plainNote c = some (ty, body)) (fails : structureFails c = true) :
    body s = refuseWith s .malformed := by
  cases c <;> cases plain
  case ladderLoad note =>
    have none' : (note.filter fun n => !n.malformed) = none := by
      cases note <;> simp_all [structureFails, Option.filter]
    simp [State.ladderBody, none', State.sessionNote]
  case tether note =>
    have none' : (note.filter fun n => !n.malformed) = none := by
      cases note <;> simp_all [structureFails, Option.filter]
    simp [State.tetherBody, none']
  all_goals
    rename_i note
    cases note with
    | none => rfl
    | some n => cases fails

theorem statusNote_malformed {judged : State → Except ReplyCode (List Byte)} {after : State → State}
    (status : statusNote c = some (ty, judged, after)) (fails : structureFails c = true) : judged s = .error .malformed := by
  cases c <;> cases status
  all_goals
    rename_i note
    cases note with
    | none => rfl
    | some n => cases fails

end

/-- Settles O14: the claim check, the status-note limit and the structure check refuse in this order. -/
theorem refusedNotesChangeNothing : Obligations.RefusedNotesChangeNothing := by
  intro s b released executing
  have taking := State.takingBatch_of_executing released executing
  refine ⟨fun ty => NoteDoes.of_answer (exec_unknownNote taking ty) executing rfl, fun c ty note => ⟨fun unclaimed other => ?_,
    fun k claimed stranger => ?_, fun player => ?_⟩⟩
  · exact NoteDoes.of_claimCheck note taking executing (by simpa [State.claimCheck, unclaimed] using other)
  · exact NoteDoes.of_claimCheck note taking executing (by simp [State.claimCheck, claimed, stranger])
  · have hears : s.Hears b := ⟨released, executing, player⟩
    refine ⟨fun full type => ?_, fun fails => ?_⟩
    · rcases noteTypeOf_cases note with ⟨part, rfl, rfl⟩ | ⟨note, rfl, rfl⟩ | ⟨body, plain⟩ | ⟨judged, after, status⟩
      · simp at type
      · simp at type
      · cases c <;> cases plain <;> simp at type
      · refine NoteDoes.of_countStatus (a := { code := .malformed }) ?_ executing rfl
        rw [exec_statusNote status taking]
        simp [State.takeStatus, hears.check, Batch.statusFull, full]
    · rcases noteTypeOf_cases note with ⟨part, rfl, rfl⟩ | ⟨operand, rfl, rfl⟩ | ⟨body, plain⟩ | ⟨judged, after, status⟩
      · cases fails
      · cases operand with
        | none =>
          refine NoteDoes.of_answer (a := { code := .malformed }) ?_ executing rfl
          rw [exec_deviceReset taking]
          simp only [State.takeDeviceReset, hears.check]
        | some u => cases fails
      · exact hears.refuses plain (plainNote_malformed plain fails)
      · refine NoteDoes.of_countStatus (a := { code := .malformed }) ?_ executing rfl
        rw [exec_statusNote status taking]
        by_cases full : b.statusFull = true <;> simp [State.takeStatus, hears.check, full, statusNote_malformed status fails]

/-! The admin states of R3. -/

/-- The group of R3's table that a note naming one session belongs to. -/
def noteGroup : Instr → NoteGroup
  | .openSession _ => .opening
  | .untether _ | .rearm _ => .profiled
  | .askFetch _ | .doneFetch _ | .abortFetch _ | .play _ => .streamingOnly
  | .ladderLoad n => if n.any LadderNote.publish then .publishing else .anySession
  | _ => .anySession

section
variable {c : Instr} {s : State} {ty : Byte} {n : Nat} {code : ReplyCode}

theorem plainNote_refused {body : State → State × Answer} (plain : plainNote c = some (ty, body)) (named : namedSession c = some n)
    (refused : s.checkSession (noteGroup c) n = .error code) : body s = refuseWith s code := by
  cases c <;> cases plain
  case ladderLoad note =>
    obtain ⟨a, filtered, rfl⟩ := Option.map_eq_some_iff.mp named
    simp only [State.ladderBody, State.sessionNote, filtered]
    simp only [noteGroup] at refused
    rw [refused]
  case setup | linkRestart | tether => cases named
  all_goals
    rename_i note
    cases note with
    | none => cases named
    | some a => cases named; exact (by rw [refused] : (match s.checkSession _ _ with
      | .error code => refuseWith s code
      | .ok i => _) = _)

theorem statusNote_refused {judged : State → Except ReplyCode (List Byte)} {after : State → State}
    (status : statusNote c = some (ty, judged, after)) (named : namedSession c = some n)
    (refused : s.checkSession (noteGroup c) n = .error code) : judged s = .error code := by
  cases c <;> cases status
  case sessionStatus session =>
    obtain rfl : session = some n := named
    have refused : s.checkSession .anySession n = .error code := refused
    simp [State.judgeStatus, refused, Except.map]
  all_goals cases named

theorem State.checkSession_bad (s : State) (g : NoteGroup) (large : 15 < n) : s.checkSession g n = .error .badSession := by
  have none' : sessionIx? n = none := by simp [sessionIx?, Nat.not_lt.mpr (Nat.succ_le_of_lt large)]
  simp [State.checkSession, none']

theorem State.checkSession_refused {g : NoteGroup} {i : SessionIx} (refused : admission g (s.session i).admin = some code) :
    s.checkSession g i.val = .error code := by
  simp [State.checkSession, sessionIx?_val, refused]

/-- R3's table, note by note. -/
theorem admission_of_refusalOf {a : Admin} (named : namedSession c = some n) (refused : refusalOf c a = some code) :
    admission (noteGroup c) a = some code := by
  cases c <;> try cases named
  case ladderLoad note =>
    cases note with
    | none => cases named
    | some m =>
      cases a <;> cases hp : m.publish <;> simp_all [refusalOf, noteGroup, admission]
  all_goals cases a <;> simp_all [refusalOf, noteGroup, admission]

end

/-- Settles O22: the session check refuses, by the index and by R3's table, before the body acts. -/
theorem admissionByAdminState : Obligations.AdmissionByAdminState := by
  intro s b c ty n hears limit note named
  have refuses : ∀ code, s.checkSession (noteGroup c) n = .error code → NoteDoes c s b s ty code none := by
    intro code refused
    rcases noteTypeOf_cases note with ⟨part, rfl, rfl⟩ | ⟨operand, rfl, rfl⟩ | ⟨body, plain⟩ | ⟨judged, after, status⟩
    · cases named
    · cases named
    · exact hears.refuses plain (plainNote_refused plain named refused)
    · exact hears.refusesStatus status limit (statusNote_refused status named refused)
  refine ⟨fun large => refuses _ (s.checkSession_bad _ large), ?_⟩
  rintro i code rfl refused
  exact refuses _ (State.checkSession_refused (admission_of_refusalOf named refused))

end Sys2Proof.Machine

/-! SUPPORT. The top attention and its comparison (R178, R179): what it is, and when it becomes the last one sent. -/

namespace Sys2Proof.Machine

/-! The order of causes and sessions. -/

theorem deviceCauses_sorted : deviceCauses.Pairwise fun c d => c.number < d.number := by decide

theorem sessionCauses_sorted : sessionCauses.Pairwise fun c d => c.number < d.number := by decide

theorem mem_allSessions (i : SessionIx) : i ∈ allSessions := by
  revert i; decide

theorem allSessions_sorted : allSessions.Pairwise (· < ·) := by decide

theorem mem_deviceCauses_iff (c : Cause) : c ∈ deviceCauses ↔ c.ofDevice = true := by cases c <;> decide

theorem mem_sessionCauses_iff (c : Cause) : c ∈ sessionCauses ↔ c.ofDevice = false := by cases c <;> decide

theorem device_before_session {c d : Cause} (hc : c.ofDevice = true) (hd : d.ofDevice = false) : c.number < d.number := by
  cases c <;> cases hc <;> cases d <;> cases hd <;> decide

theorem Cause.number_injective {c d : Cause} (h : c.number = d.number) : c = d := by
  cases c <;> cases d <;> first | rfl | cases h

/-- In a sorted list the first entry that meets a test comes before every other that does. -/
theorem before_of_find? {α : Type} {r : α → α → Prop} {p : α → Bool} {l : List α} {a : α} (sorted : l.Pairwise r)
    (h : l.find? p = some a) : ∀ b ∈ l, p b = true → a = b ∨ r a b := by
  intro b hb pb
  obtain ⟨-, before, behind, rfl, none'⟩ := List.find?_eq_some_iff_append.mp h
  rcases List.mem_append.mp hb with h | h
  · exact absurd pb (by simpa using none' b h)
  · rcases List.mem_cons.mp h with h | h
    · exact .inl h.symm
    · exact .inr ((List.pairwise_cons.mp (List.pairwise_append.mp sorted).2.1).1 b h)

section
variable {s : State}

theorem State.topAttention_device {c : Cause} (h : deviceCauses.find? (fun c => s.control.devicePending.has c) = some c) :
    s.topAttention = some (c, 0) := by
  simp [State.topAttention, h]

theorem State.hasPending_device {c : Cause} {i : SessionIx} (h : c.ofDevice = true) :
    s.HasPending c i ↔ s.control.devicePending.has c = true ∧ i = 0 := by
  simp [State.HasPending, h]

theorem State.hasPending_session {c : Cause} {i : SessionIx} (h : c.ofDevice = false) :
    s.HasPending c i ↔ (s.session i).causes.has c = true := by
  simp [State.HasPending, h]

/-- The first of a list of causes that some session has pending, with the lowest such session. -/
theorem first_pending {l : List Cause} (sorted : l.Pairwise fun c d => c.number < d.number) {c : Cause} {i : SessionIx}
    (h : l.findSome? (fun c => (allSessions.find? fun i => (s.session i).causes.has c).map fun i => (c, i)) = some (c, i)) :
    c ∈ l ∧ (s.session i).causes.has c = true ∧
      ∀ d ∈ l, ∀ j, (s.session j).causes.has d = true → c.number < d.number ∨ (c = d ∧ i ≤ j) := by
  induction l with
  | nil => cases h
  | cons a l ih =>
    rw [List.findSome?_cons] at h
    obtain ⟨below, sorted⟩ := List.pairwise_cons.mp sorted
    cases found : allSessions.find? (fun i => (s.session i).causes.has a) with
    | none =>
      rw [found] at h
      obtain ⟨member, pending, first⟩ := ih sorted h
      refine ⟨List.mem_cons_of_mem _ member, pending, fun d hd j hj => ?_⟩
      rcases List.mem_cons.mp hd with rfl | hd
      · exact absurd hj (List.find?_eq_none.mp found j (mem_allSessions j))
      · exact first d hd j hj
    | some k =>
      rw [found] at h
      obtain ⟨rfl, rfl⟩ : a = c ∧ k = i := by simpa using h
      have pending : (s.session k).causes.has a = true := by simpa using List.find?_some found
      refine ⟨List.mem_cons_self, pending, fun d hd j hj => ?_⟩
      rcases List.mem_cons.mp hd with rfl | hd
      · refine .inr ⟨rfl, ?_⟩
        rcases before_of_find? allSessions_sorted found j (mem_allSessions j) hj with rfl | h
        · exact Fin.le_refl _
        · exact Fin.le_of_lt h
      · exact .inl (below d hd)

/-- The top attention is pending, and of highest rank (R178). -/
theorem State.topAttention_spec {c : Cause} {i : SessionIx} (h : s.topAttention = some (c, i)) :
    s.HasPending c i ∧ ∀ d j, s.HasPending d j → c.number < d.number ∨ (c = d ∧ i ≤ j) := by
  unfold State.topAttention at h
  cases device : deviceCauses.find? (fun c => s.control.devicePending.has c) with
  | some a =>
    rw [device] at h
    obtain ⟨rfl, rfl⟩ : a = c ∧ (0 : SessionIx) = i := by simpa using h
    have own := (mem_deviceCauses_iff a).mp (List.mem_of_find?_eq_some device)
    refine ⟨(State.hasPending_device own).mpr ⟨List.find?_some device, rfl⟩, fun d j hd => ?_⟩
    cases kind : d.ofDevice with
    | true =>
      obtain ⟨pending, rfl⟩ := (State.hasPending_device kind).mp hd
      rcases before_of_find? deviceCauses_sorted device d ((mem_deviceCauses_iff d).mpr kind) pending with h | h
      · exact .inr ⟨h, Fin.le_refl _⟩
      · exact .inl h
    | false => exact .inl (device_before_session own kind)
  | none =>
    rw [device] at h
    obtain ⟨member, pending, first⟩ := first_pending sessionCauses_sorted h
    have own := (mem_sessionCauses_iff c).mp member
    refine ⟨(State.hasPending_session own).mpr pending, fun d j hd => ?_⟩
    cases kind : d.ofDevice with
    | true =>
      obtain ⟨pending, -⟩ := (State.hasPending_device kind).mp hd
      exact absurd pending (List.find?_eq_none.mp device d ((mem_deviceCauses_iff d).mpr kind))
    | false => exact first d ((mem_sessionCauses_iff d).mpr kind) j ((State.hasPending_session kind).mp hd)

/-- Without a top attention nothing is pending (R178). -/
theorem State.not_hasPending (h : s.topAttention = none) (c : Cause) (i : SessionIx) : ¬ s.HasPending c i := by
  unfold State.topAttention at h
  split at h
  · cases h
  next device =>
  intro hp
  cases kind : c.ofDevice with
  | true =>
    exact List.find?_eq_none.mp device c ((mem_deviceCauses_iff c).mpr kind) ((State.hasPending_device kind).mp hp).1
  | false =>
    have none' := List.findSome?_eq_none_iff.mp h c ((mem_sessionCauses_iff c).mpr kind)
    have free := List.find?_eq_none.mp (Option.map_eq_none_iff.mp none') i (mem_allSessions i)
    exact free ((State.hasPending_session kind).mp hp)

theorem State.topAttention_eq_some_iff {c : Cause} {i : SessionIx} : s.topAttention = some (c, i) ↔
    s.HasPending c i ∧ ∀ d j, s.HasPending d j → c.number < d.number ∨ (c = d ∧ i ≤ j) := by
  refine ⟨State.topAttention_spec, fun ⟨pending, first⟩ => ?_⟩
  cases top : s.topAttention with
  | none => exact absurd pending (State.not_hasPending top c i)
  | some x =>
    obtain ⟨d, j⟩ := x
    obtain ⟨pending', first'⟩ := State.topAttention_spec top
    rcases first d j pending' with h | ⟨rfl, h⟩
    · rcases first' c i pending with k | ⟨rfl, -⟩ <;> omega
    · rcases first' c i pending with k | ⟨-, k⟩
      · omega
      · rw [Fin.le_antisymm h k]

/-! The sending of a note of the part's own accord. -/

/-- With a player address and room in the report queue, a note is queued last, in a frame of the part's own notes (R160). -/
theorem State.originate_sent (claimed : s.control.claim ≠ none) (room : s.path.reportQueue.length < 8) (n : OutNote) :
    (s.originate n).2 = true ∧ (s.originate n).1.path.reportNotesDropped = s.path.reportNotesDropped ∧
    ∃ f, (s.originate n).1.path.reportQueue.getLast? = some f ∧ f.isReply = false ∧ f.notes.getLast? = some n := by
  obtain ⟨k, hk⟩ := Option.ne_none_iff_exists'.mp claimed
  unfold State.originate State.beginReport reportQueueFrames
  rw [hk]
  simp only [room, if_true]
  split
  · next f last =>
    split
    · next takes =>
      have own : f.isReply = false := by
        unfold ReportFrame.takesOriginated at takes; simp at takes; exact takes.1
      exact ⟨rfl, rfl, { f with notes := f.notes ++ [n] }, by simp, own, by simp⟩
    · exact ⟨rfl, rfl, _, List.getLast?_concat .., rfl, rfl⟩
  · exact ⟨rfl, rfl, _, List.getLast?_concat .., rfl, rfl⟩

theorem State.attentionCauses_eq (c : Cause) (i : SessionIx) : s.attentionCauses (c, i) =
    if c.ofDevice then s.control.devicePending else (s.session i).causes := by
  unfold State.attentionCauses; cases c <;> rfl

theorem State.compareAttention_of_none (top : s.topAttention = none) :
    s.compareAttention = { s with control.lastTop := none } := by
  simp [State.compareAttention, top]

theorem State.compareAttention_of_sent {x : Cause × SessionIx} (top : s.topAttention = some x) (sent : s.control.lastTop = some x) :
    s.compareAttention = s := by
  simp [State.compareAttention, top, sent]

theorem State.compareAttention_of_unsent {x : Cause × SessionIx} (top : s.topAttention = some x)
    (unsent : s.control.lastTop ≠ some x) : s.compareAttention =
      let sent := s.originate (.attention { cause := x.1, session := x.2, pending := s.attentionCauses x })
      if sent.2 then { sent.1 with control.lastTop := some x } else sent.1 := by
  simp [State.compareAttention, top, unsent]

/-- A comparison that can send leaves the top attention as the last sent (R179). -/
theorem State.compareAttention_lastTop (claimed : s.control.claim ≠ none) (room : s.path.reportQueue.length < 8) :
    s.compareAttention.control.lastTop = s.topAttention := by
  cases top : s.topAttention with
  | none => rw [State.compareAttention_of_none top]
  | some x =>
    by_cases sent : s.control.lastTop = some x
    · rw [State.compareAttention_of_sent top sent, sent]
    · rw [State.compareAttention_of_unsent top sent]
      simp [(State.originate_sent claimed room _).1]

end

/-- Settles O20: topAttention_eq_some_iff, and the comparison case by case. -/
theorem topAttentionIsCompared : Obligations.TopAttentionIsCompared := by
  intro s
  refine ⟨fun c i => State.topAttention_eq_some_iff, State.compareAttention_of_none, fun c i top =>
    ⟨State.compareAttention_of_sent top, fun unsent => ⟨fun unclaimed => ?_, fun claimed => ⟨fun room => ?_, fun full closed => ?_⟩⟩⟩⟩
  · rw [State.compareAttention_of_unsent top unsent]
    simp [State.originate, unclaimed]
  · obtain ⟨sent, dropped, f, last, own, note⟩ := State.originate_sent claimed room
      (.attention { cause := c, session := i, pending := s.attentionCauses (c, i) })
    refine ⟨s.compareAttention_apart, top ▸ State.compareAttention_lastTop claimed room, ?_⟩
    rw [State.compareAttention_of_unsent top unsent]
    simp only [sent, if_true]
    exact ⟨dropped, f, last, own, by rw [note, State.attentionCauses_eq]⟩
  · obtain ⟨k, hk⟩ := Option.ne_none_iff_exists'.mp claimed
    have full : ¬ s.path.reportQueue.length < 8 := by omega
    have dropped : ∀ n, s.originate n = (s.dropReportNote, false) := fun n => by
      unfold State.originate
      rw [hk]
      cases last : s.path.reportQueue.getLast? with
      | none => simp [State.beginReport, reportQueueFrames, full]
      | some f => simp [closed f last, State.beginReport, reportQueueFrames, full]
    rw [State.compareAttention_of_unsent top unsent, dropped]
    rfl

end Sys2Proof.Machine

/-! SUPPORT. Carriers, the claim, the beginning of a batch, DEVICE RESET, SETUP and LINK RESTART. -/

namespace Sys2Proof.Machine

/-! Carriers (R157, R51, R53). -/

section
variable {s : State}

theorem exec_lineCarrierUp (released : s.resetAsserted = false) :
    exec .lineCarrierUp s = .next (if s.path.line.carrier then s else settle s s.lineUp) := by
  simp only [exec, execLineCarrierUp, State.unlessReset_of_released released]

theorem exec_lineCarrierDown (released : s.resetAsserted = false) :
    exec .lineCarrierDown s = .next (if s.path.line.carrier then settle s s.lineDown else s) := by
  simp only [exec, execLineCarrierDown, State.unlessReset_of_released released]

theorem exec_stationCarrierEvent (released : s.resetAsserted = false) (up : Bool) :
    exec (.stationCarrierEvent up) s = .next (if s.path.station.carrier = up then s
      else if up then { s with path.station.carrier := true } else s.stationDown) := by
  simp only [exec, execStationCarrierEvent, State.unlessReset_of_released released]

/-- An event that changes the device's pending set is followed by the comparison (R179). -/
theorem settle_of_device {t : State} (h : t.control.devicePending ≠ s.control.devicePending) : settle s t = t.compareAttention := by
  unfold settle
  rw [if_neg]
  intro same
  exact h (List.cons.inj same).1.symm

theorem or_bit_ne {p : CauseSet} {c : Cause} (h : p.has c = false) : p ||| c.bit ≠ p := by
  intro e
  have set := congrArg (fun q : CauseSet => q.has c) e
  have bit : CauseSet.has c.bit c = true := by cases c <;> decide
  simp only [CauseSet.has, BitVec.getLsbD_or] at set h bit
  simp [h, bit] at set

/-- A raised cause is announced, where a player address is held and the report queue has room (R178, R179). -/
theorem settle_raised {t : State} {c : Cause} (raised : t.control.devicePending = s.control.devicePending ||| c.bit)
    (claim : t.control.claim = s.control.claim) (queue : t.path.reportQueue = s.path.reportQueue)
    (fresh : s.control.devicePending.has c = false) (claimed : s.control.claim ≠ none)
    (room : s.path.reportQueue.length < 8) : (settle s t).control.lastTop = (settle s t).topAttention := by
  rw [settle_of_device (by rw [raised]; exact or_bit_ne fresh), State.topAttention_of_apart t.compareAttention_apart]
  exact State.compareAttention_lastTop (claim ▸ claimed) (queue ▸ room)

theorem State.lineUp_kept (s : State) : s.lineUp.control = (s.raiseDevice .linkUp).control ∧
    s.lineUp.path.reportQueue = s.path.reportQueue := by
  unfold State.lineUp State.reSeed
  rw [State.recompute_shares]
  exact ⟨rfl, rfl⟩

end

/-- Settles O6: a transition of the line carrier raises its cause and is settled; one of the station carrier is not. -/
theorem carriersTurn : Obligations.CarriersTurn := by
  intro s up released
  simp only [exec_lineCarrierUp released, exec_lineCarrierDown released, exec_stationCarrierEvent released]
  refine ⟨fun on => by simp [on], fun off => ⟨settle s s.lineUp, by simp [off], ?_, ?_⟩, fun off => by simp [off],
    fun on => ⟨settle s s.lineDown, by simp [on], settle_apart _ _, fun fresh claimed room => ?_⟩, fun same => by simp [same],
    fun off => by simp [off], fun on quiet => ?_, fun on awaits => ?_⟩
  · rw [settle_apart]; rfl
  · obtain ⟨control, queue⟩ := s.lineUp_kept
    exact settle_raised (by rw [control]; rfl) (by rw [control]; rfl) queue
  · exact settle_raised rfl rfl rfl fresh claimed room
  · cases phase : s.control.resetPhase with
    | awaitingReply => exact absurd phase quiet
    | quiet | due =>
      have stands : { s.control with resetPhase := s.control.resetPhase } = s.control := rfl
      rw [phase] at stands
      simp [on, State.stationDown, phase, stands]
  · simp [on, State.stationDown, awaits]

/-! The claim (R171). -/

/-- One answer adds one frame at most to the report queue (R160). -/
theorem State.answer_length {s : State} {b : Batch} (hb : s.control.batch = some b) (ty : Byte) (a : Answer) :
    (s.answer ty a).path.reportQueue.length ≤ s.path.reportQueue.length + 1 := by
  have joined : ∀ (rs : List Reply) (q : List ReportFrame),
      (rs.foldl (fun q r => appendReply (.reply r) q) q).length = q.length := fun rs => by
    induction rs with
    | nil => exact fun _ => rfl
    | cons r rs ih => intro q; rw [List.foldl_cons, ih, appendReply_length]
  have taken : ∀ p rs (q : List ReportFrame), (takeReplies p q rs).length = q.length := fun p rs q => by
    unfold takeReplies; cases p <;> simp [joined]
  have begun : ∀ r, (s.queueWith b r).length ≤ s.path.reportQueue.length + 1 := fun r => by
    unfold State.queueWith
    split
    · exact (appendReply_length _ _).le.trans (Nat.le_succ _)
    · exact Nat.le_succ _
    · split <;> simp
  obtain ⟨bad, -, -, queue⟩ := State.answer_spec hb ty a
  rw [queue, List.length_map, taken]
  exact begun _

/-- Settles O13: a good part address sets the claim, is answered and compared; any other is answered MALFORMED. -/
theorem claimSetsTheAddresses : Obligations.ClaimSetsTheAddresses := by
  intro s b released executing player
  have taking := State.takingBatch_of_executing released executing
  have check : s.claimCheck b true = none := by
    unfold State.claimCheck
    cases claim : s.control.claim with
    | none => rfl
    | some k =>
      have : k.player = b.source := by simpa [claim] using player
      simp [this]
  have own : s.control.claim.elim b.source Claim.player = b.source := by
    cases claim : s.control.claim with
    | none => rfl
    | some k => simpa [claim] using player
  refine ⟨fun a good => ?_, fun a group => ?_, ?_⟩
  · have taken : exec (.claim (some a)) s = .next ((s.setClaim b a).answer 1 (Answer.done false)).compareAttention := by
      have filtered : (some a).filter (fun a => !groupBit a) = some a := by simp only [Option.filter, groupBit, good]; rfl
      rw [exec_claim taking]
      simp only [State.takeClaim, check, filtered]
    have claimed : s.setClaim b a = { s with control.claim := some { part := a, player := b.source } } := by
      unfold State.setClaim; rw [own]
    have batch : (s.setClaim b a).control.batch = some { b with statusNotes := b.statusNotes } := executing
    have answer := (s.setClaim b a).answer_apart 1 (Answer.done false)
    have answered : (s.setClaim b a).Answered _ b ((Answer.done false).reply b 1) :=
      State.Answered.of_answer batch (.refl _) (.refl _) (State.topAttention_of_apart answer).symm (.inr rfl)
    refine ⟨?_, fun room t ht => ?_⟩
    · rw [← claimed]
      exact ⟨_, taken, (State.compareAttention_apart _).trans answer, answered⟩
    · rw [taken] at ht
      cases ht
      rw [State.topAttention_of_apart (State.compareAttention_apart _)]
      refine State.compareAttention_lastTop ?_ ?_
      · rw [State.answer_claim]; simp [State.setClaim]
      · have := State.answer_length batch 1 (Answer.done false)
        have queue : (s.setClaim b a).path.reportQueue.length = s.path.reportQueue.length := rfl
        omega
  · refine NoteDoes.of_answer (a := { code := .malformed }) ?_ executing rfl
    have filtered : (some a).filter (fun a => !groupBit a) = none := by simp only [Option.filter, groupBit, group]; rfl
    rw [exec_claim taking]
    simp only [State.takeClaim, check, filtered]
  · refine NoteDoes.of_answer (a := { code := .malformed }) ?_ executing rfl
    rw [exec_claim taking]
    simp [State.takeClaim, check]

/-! The beginning of a batch (R170). -/

section
variable {s : State} {bs : List Byte} {waiting : List (List Byte)}

theorem controlHeader_of_short (short : (framePayload bs).length < 5) : controlHeader bs = none := if_pos short

theorem controlHeader_of_long (long : 5 ≤ (framePayload bs).length) : controlHeader bs = some
    { source := sourceAddr bs, version := fieldAt (framePayload bs) 0 1
      number := BitVec.ofNat 16 (fieldAt (framePayload bs) 1 2), count := fieldAt (framePayload bs) 3 1
      notes := (framePayload bs).drop 5 } := if_neg (Nat.not_lt.mpr long)

theorem State.nextBatch_of_short (idle : s.control.batch = none) (queue : s.control.inputQueue = bs :: waiting)
    (short : controlHeader bs = none) : s.nextBatch = { s with control.inputQueue := waiting } := by
  simp [State.nextBatch, idle, queue, short]

theorem State.nextBatch_of_header {h : ControlHeader} (idle : s.control.batch = none)
    (queue : s.control.inputQueue = bs :: waiting) (header : controlHeader bs = some h) :
    s.nextBatch = State.beginBatch { s with control.inputQueue := waiting } h := by
  simp [State.nextBatch, idle, queue, header]

theorem cutNotes_ne_nil {n : Nat} (h : 1 ≤ n) (bs : List Byte) : cutNotes n bs ≠ [] := by
  cases n with
  | zero => cases h
  | succ n => unfold cutNotes; split <;> simp

/-- A bad header is answered in a reply frame of its own, which closes with it (R160, R170). -/
theorem State.beginBatch_of_bad {h : ControlHeader} (bad : h.valid = false) :
    (s.beginBatch h).control.batch = none ∧ (s.path.reportQueue.length < 8 → ∃ f, (s.beginBatch h).path.reportQueue =
      s.path.reportQueue.map (fun g => { g with isOpen := false }) ++ [f] ∧ f.isReply = true ∧ f.isOpen = false ∧
      f.batch = h.number ∧ f.dest = s.control.claim.elim h.source Claim.player ∧
      f.notes = [.reply { position := 0, noteType := 0, code := .malformed, detail := none, payload := none }]) := by
  unfold State.beginBatch
  rw [bad]
  simp only [Bool.false_eq_true, if_false]
  refine ⟨rfl, fun room => ?_⟩
  simp only [State.endBatch, State.addReply, State.beginReport, reportQueueFrames, room, if_true, List.map_append, List.map_cons,
    List.map_nil]
  refine ⟨_, rfl, rfl, rfl, rfl, ?_, rfl⟩
  cases s.control.claim <;> simp [State.replyDest]

/-- A good header's notes stand ready, unanswered while the first can be read (R170). -/
theorem State.beginBatch_of_good {h : ControlHeader} (good : h.valid = true) (first : ∀ r ∈ (cutNotes h.count h.notes).head?, r.readable = true)
    (some' : cutNotes h.count h.notes ≠ []) : s.beginBatch h = { s with
      control.batch := some { source := h.source, number := h.number, position := 0, rest := cutNotes h.count h.notes
                              statusNotes := 0, reply := .notBegun } } := by
  unfold State.beginBatch
  rw [good]
  simp only [if_true]
  obtain ⟨m, l, notes⟩ := List.exists_cons_of_ne_nil some'
  have readable : m.readable = true := first m (by rw [notes]; rfl)
  simp [notes, State.answerUnreadable, readable, State.endIfDone]

end

/-- Settles O12: a batch begins by its header. -/
theorem batchBegins : Obligations.BatchBegins := by
  intro s bs waiting released
  have taken : exec .batch s = .next s.nextBatch := by
    simp only [exec, execBatch, State.unlessReset_of_released released]
  rw [taken]
  refine ⟨fun busy => ?_, fun idle queue => ?_⟩
  · congr 1
    unfold State.nextBatch
    split
    · next idle queue => simp [idle, queue] at busy
    · rfl
    · rfl
  refine ⟨fun short => by rw [State.nextBatch_of_short idle queue (controlHeader_of_short short)], fun long => ?_⟩
  rw [State.nextBatch_of_header idle queue (controlHeader_of_long long)]
  refine ⟨fun bad => ?_, fun version least most notes hnotes first => ?_⟩
  · have invalid : ControlHeader.valid { source := sourceAddr bs, version := fieldAt (framePayload bs) 0 1
                                         number := BitVec.ofNat 16 (fieldAt (framePayload bs) 1 2)
                                         count := fieldAt (framePayload bs) 3 1
                                         notes := (framePayload bs).drop 5 } = false := by
      simp only [ControlHeader.valid, Bool.and_eq_false_iff, decide_eq_false_iff_not]
      omega
    obtain ⟨ended, frame⟩ := State.beginBatch_of_bad (s := { s with control.inputQueue := waiting }) invalid
    exact ⟨_, rfl, (State.beginBatch_reported _ _).apart, ended, frame⟩
  · subst hnotes
    congr 1
    refine State.beginBatch_of_good ?_ first (cutNotes_ne_nil least _)
    simp [ControlHeader.valid, version, least, most]

/-! DEVICE RESET (R175). -/

/-- Marking and then closing the frames of a queue changes the open ones alone. -/
theorem close_mark_of_closed {q : List ReportFrame} (closed : ∀ f ∈ q, f.isOpen = false) :
    (markResetReply q).map (fun f => { f with isOpen := false }) = q := by
  unfold markResetReply
  rw [List.map_map]
  conv_rhs => rw [← List.map_id q]
  refine List.map_congr_left fun f hf => ?_
  have shut := closed f hf
  obtain ⟨isReply, number, dest, isOpen, resetReply, notes⟩ := f
  simp_all

theorem close_mark_append (q r : List ReportFrame) : (markResetReply (q ++ r)).map (fun f => { f with isOpen := false }) =
    (markResetReply q).map (fun f => { f with isOpen := false }) ++ (markResetReply r).map (fun f => { f with isOpen := false }) := by
  simp [markResetReply]

theorem State.startReset_queue {s : State} {b : Batch} (hb : s.control.batch = some b) : (s.startReset b).path.reportQueue =
    (markResetReply (s.queueWith b ((Answer.done false).reply b 6))).map fun f => { f with isOpen := false } := by
  rw [← State.addReply_queue hb]; rfl

/-- What an accepted DEVICE RESET leaves apart from reports (R175). -/
theorem State.startReset_apart {s : State} {b : Batch} (hb : s.control.batch = some b) :
    (s.startReset b).apartFromReports = State.apartFromReports { s with
      control.inputQueue := []
      control.resetPhase :=
        if b.reply.tried s.path.reportQueue.length = .dropped ∨ s.path.station.carrier = false then .due else .awaitingReply } := by
  have told := s.addReply_apart ((Answer.done false).reply b 6)
  have carrier : (s.addReply ((Answer.done false).reply b 6)).path.station.carrier = s.path.station.carrier :=
    (congrArg (fun u : State => u.path.station.carrier) told :)
  have phase : (s.startReset b).control.resetPhase =
      if b.reply.tried s.path.reportQueue.length = .dropped ∨ s.path.station.carrier = false then .due else .awaitingReply := by
    unfold State.startReset
    change (if ((s.addReply ((Answer.done false).reply b 6)).control.batch.any fun c => decide (c.reply = .dropped)) ||
      !(s.addReply ((Answer.done false).reply b 6)).path.station.carrier then ResetPhase.due else .awaitingReply) = _
    rw [State.addReply_batch hb, carrier]
    simp
  have rest := congrArg (fun u : State => { u with
    control.inputQueue := [], control.resetPhase := (s.startReset b).control.resetPhase }) told
  rw [phase] at rest
  refine Eq.trans ?_ rest
  rw [← phase]
  rfl

/-- Settles O19: the reply is tried, the frame it stands in is marked and closed, and the reset waits for it or is due. -/
theorem deviceResetPends : Obligations.DeviceResetPends := by
  rintro s b _ hears rfl
  have batch := hears.executing
  refine ⟨s.startReset b, ?_, rfl, ?_, fun fresh room => ?_, fun begun before f behind queue opened front back => ?_, fun lost => ?_⟩
  · rw [exec_deviceReset hears.taking]
    simp [State.takeDeviceReset, hears.check]
  · rw [State.startReset_apart batch]
    congr 3
    unfold ReplyProgress.tried
    cases s.path.station.carrier <;> cases reply : b.reply <;> simp
    by_cases room : s.path.reportQueue.length < 8 <;> simp [room]
  · rw [State.startReset_queue batch]
    simp only [State.queueWith, fresh, room, if_true, close_mark_append, List.getLast?_append]
    exact ⟨_, rfl, rfl, rfl, rfl, rfl, rfl⟩
  · rw [State.startReset_queue batch]
    simp only [State.queueWith, begun, queue]
    rw [appendReply_joins _ _ _ _ front opened, close_mark_append, close_mark_of_closed front]
    have rest := close_mark_of_closed back
    simp only [markResetReply, List.map_cons, opened, if_true] at rest ⊢
    rw [rest]
    rfl
  · have tried : b.reply.tried s.path.reportQueue.length = .dropped := by
      rcases lost with h | ⟨h, full⟩
      · rw [h]; rfl
      · simp [h, ReplyProgress.tried, Nat.not_lt.mpr full]
    refine ⟨State.addReply_dropped batch tried _, fun closed => ?_⟩
    rw [State.startReset_queue batch, State.queueWith_of_dropped tried, close_mark_of_closed closed]

end Sys2Proof.Machine

/-! SUPPORT. SETUP and LINK RESTART (R132, R172, R174). -/

namespace Sys2Proof.Machine

/-- A field that keeps what it held where none is given holds what was given or held exactly when nothing was clamped. -/
theorem outside_iff_fieldOr {lo hi d : Nat} {o : Option Nat} : outside lo hi o = false ↔ fieldOr lo hi d o = o.getD d := by
  cases o <;> simp [outside, fieldOr]

/-- An ordered threshold holds what was given or held exactly when neither its own range nor the ordering moved it. -/
theorem ordered_iff {lo top d : Nat} {o : Option Nat} (h : lo ≤ 64) :
    (outside lo 64 o = false ∧ clampTo lo top (fieldOr lo 64 d o) = fieldOr lo 64 d o) ↔
      clampTo lo top (fieldOr lo 64 d o) = o.getD d := by
  cases o with
  | none => simp [outside, fieldOr]
  | some v =>
    simp only [outside, fieldOr, Option.any_some, Option.elim_some, Option.getD_some, decide_eq_false_iff_not, not_not]
    unfold clampTo; omega

/-- What a SETUP gives, and what is held where it gives nothing. -/
def SetupNote.given (n : SetupNote) (u : Setup) : Setup :=
  { linkFloor := n.linkFloor.getD u.linkFloor, margin := n.margin.getD u.margin
    maxOutstanding := n.maxOutstanding.getD u.maxOutstanding, grantSpacing := n.grantSpacing.getD u.grantSpacing
    high := n.high.getD u.high, mid := n.mid.getD u.mid, low := n.low.getD u.low, wA := n.wA.getD u.wA
    wB := n.wB.getD u.wB, wS := n.wS.getD u.wS, wM := n.wM.getD u.wM, idleLimit := n.idleLimit.getD u.idleLimit }

/-- A SETUP is answered as clamped exactly when a value is not the one given or held (R172). -/
theorem SetupNote.clamped_eq_false_iff (n : SetupNote) (u : Setup) : n.clamped u = false ↔ n.applyTo u = SetupNote.given n u := by
  have mid := ordered_iff (lo := 17) (top := n.highValue u) (d := u.mid) (o := n.mid) (by decide)
  have low := ordered_iff (lo := 16) (top := n.midValue u) (d := u.low) (o := n.low) (by decide)
  simp only [SetupNote.clamped, SetupNote.applyTo, SetupNote.given, Bool.or_eq_false_iff, decide_eq_false_iff_not, not_not, and_assoc,
    Setup.mk.injEq]
  constructor
  · rintro ⟨h1, h2, h3, h4, h5, h6, h7, h8, h9, h10, h11, h12, h13, h14⟩
    exact ⟨outside_iff_fieldOr.mp h1, outside_iff_fieldOr.mp h2, outside_iff_fieldOr.mp h3, outside_iff_fieldOr.mp h4,
      outside_iff_fieldOr.mp h5, mid.mp ⟨h6, h13⟩, low.mp ⟨h7, h14⟩, outside_iff_fieldOr.mp h8, outside_iff_fieldOr.mp h9,
      outside_iff_fieldOr.mp h10, outside_iff_fieldOr.mp h11, outside_iff_fieldOr.mp h12⟩
  · rintro ⟨h1, h2, h3, h4, h5, h6, h7, h8, h9, h10, h11, h12⟩
    obtain ⟨mid, mid'⟩ := mid.mpr h6
    obtain ⟨low, low'⟩ := low.mpr h7
    exact ⟨outside_iff_fieldOr.mpr h1, outside_iff_fieldOr.mpr h2, outside_iff_fieldOr.mpr h3, outside_iff_fieldOr.mpr h4,
      outside_iff_fieldOr.mpr h5, mid, low, outside_iff_fieldOr.mpr h8, outside_iff_fieldOr.mpr h9,
      outside_iff_fieldOr.mpr h10, outside_iff_fieldOr.mpr h11, outside_iff_fieldOr.mpr h12, mid', low'⟩

theorem SetupNote.clamped_eq (n : SetupNote) (u : Setup) : n.clamped u = decide (n.applyTo u ≠ SetupNote.given n u) := by
  cases h : n.clamped u with
  | false => simp [(SetupNote.clamped_eq_false_iff n u).mp h]
  | true =>
    have moved : n.applyTo u ≠ SetupNote.given n u := fun e => by
      rw [(SetupNote.clamped_eq_false_iff n u).mpr e] at h; cases h
    simp [moved]

/-- Settles O16: the values are those of applyTo, and the examined state is that of applySetup. -/
theorem setupAndLinkRestartSetTheDevice : Obligations.SetupAndLinkRestartSetTheDevice := by
  refine ⟨fun s b hears => ?_, ?_⟩
  · have batch : s.reSeed.control.batch = s.control.batch := by unfold State.reSeed; rw [State.recompute_shares]
    exact hears.does (c := .linkRestart (some ())) (a := Answer.done false) rfl rfl batch rfl
  · rintro s b n ⟨linkFloor, margin, maxOutstanding, grantSpacing, high, mid, low, wA, wB, wS, wM, idleLimit⟩ hears
      rfl rfl rfl rfl rfl hmid hlow rfl rfl rfl rfl rfl _ _ _ _ rfl rfl rfl rfl
    obtain rfl : mid = n.midValue s.setup := hmid
    obtain rfl : low = n.lowValue s.setup := hlow
    have done := hears.does (c := .setup (some n)) (e := s.applySetup n) (a := Answer.done (n.clamped s.setup)) rfl rfl
      (by rw [(s.applySetup_reportsKept n).control]) rfl
    rw [SetupNote.clamped_eq] at done
    exact done

end Sys2Proof.Machine

/-! SUPPORT. The status payloads octet by octet (R169, R173, R174, R176): the model's field encodings are those of the
statements, and each group is its fields. -/

namespace Sys2Proof.Machine

/-! Encodings. -/

theorem bigEndian_succ (n v : Nat) : bigEndian (n + 1) v = bigEndian n (v / 256) ++ [BitVec.ofNat 8 v] := by
  unfold bigEndian
  rw [List.range_succ, List.map_append]
  congr 1
  · refine List.map_congr_left fun k hk => ?_
    have lt : k < n := List.mem_range.mp hk
    have exponent : n + 1 - 1 - k = (n - 1 - k) + 1 := by omega
    rw [exponent, Nat.pow_succ, Nat.mul_comm, Nat.div_div_eq_div_mul]
  · simp

theorem octets_eq (n v : Nat) : octets n v = bigEndian n v := by
  induction n generalizing v with
  | zero => rfl
  | succ n ih => rw [bigEndian_succ, ← ih]; rfl

theorem flag_eq (b : Bool) : flag b = flagField b := by cases b <;> rfl

theorem present_eq {α : Type} (o : Option α) (f : α → List Byte) : present o f = optField f o := by cases o <;> rfl

theorem counted_eq {α : Type} (l : List α) (f : α → List Byte) : counted l f = listField f l := by
  simp [counted, listField, octet1, bigEndian, List.flatMap]

theorem optField_map {α β : Type} (f : β → List Byte) (g : α → β) (o : Option α) :
    optField f (o.map g) = optField (fun a => f (g a)) o := by cases o <;> rfl

section
variable {s : State}

/-! Slots (R65, R107, R127). -/

theorem State.ownSlots_eq (s : State) (i : SessionIx) : s.ownSlots i = (s.slotsOf i).map Prod.snd := by
  unfold State.ownSlots State.slotsOf
  induction allSlots with
  | nil => rfl
  | cons k l ih =>
    cases held : s.slot k with
    | none => simp [held, ih]
    | some x => by_cases own : x.session = i <;> simp [held, own, ih]

theorem State.projection_eq (s : State) (i : SessionIx) : s.projection i = s.projected i := by
  unfold State.projection State.projected
  rw [State.ownSlots_eq]
  simp [List.map_map, Function.comp_def]

theorem State.occupiedCount_eq (s : State) : (allSlots.filterMap s.slot).length = s.occupiedCount := by
  unfold State.occupiedCount
  induction allSlots with
  | nil => rfl
  | cons k l ih => cases held : s.slot k <;> simp_all

/-- A session's slots listed by slot number are the pairs of slotsOf, field by field. -/
theorem State.counted_slots {i : SessionIx} {f : SlotIx → List Byte} (hf : ∀ k x, s.slot k = some x → f k = slotField (k, x)) :
    counted (allSlots.filter fun k => (s.slot k).any fun y => decide (y.session = i)) f = listField slotField (s.slotsOf i) := by
  have entries : ∀ l : List SlotIx, ((l.filter fun k => (s.slot k).any fun y => decide (y.session = i)).map f) =
      (l.filterMap fun k => (s.slot k).bind fun x => if x.session = i then some (k, x) else none).map slotField := by
    intro l
    induction l with
    | nil => rfl
    | cons k l ih =>
      cases held : s.slot k with
      | none => simp [held, ih]
      | some x => by_cases own : x.session = i <;> simp [held, own, ih, hf k x held]
  have lengths := congrArg List.length (entries allSlots)
  simp only [List.length_map] at lengths
  rw [counted_eq]
  simp only [listField, List.flatMap, entries, lengths, State.slotsOf]

/-- A session's flow entries, field by field. -/
theorem State.counted_flows {i : SessionIx} {f : FlowEntry → List Byte} (hf : ∀ e, f e = flowField e) :
    counted (s.flows.filter fun e => decide (e.session = i)) f = listField flowField (s.flowsOf i) := by
  rw [counted_eq, funext hf]; rfl

end

/-- Settles O18: each group of the payloads is unfolded to its fields, in their encodings. -/
theorem statusPayloadsHoldTheState : Obligations.StatusPayloadsHoldTheState := by
  refine ⟨⟨rfl, rfl, rfl, rfl, rfl, rfl, rfl, rfl⟩, fun s => ⟨?_, ?_, ?_⟩⟩
  · cases claim : s.control.claim <;>
      simp [octets_eq, flag_eq, State.occupiedCount_eq, State.devicePayload, setupField, octet1, octet2, octet4, octet8,
        countField, claim, optField, addrField, bigEndian]
  · simp only [octets_eq, State.snapshotPayload, timeField, countField, octet4, octet8]
  · rintro i _ time count small rate rung rfl htime hcount hsmall hrate hrung
    obtain rfl : time = timeField := funext fun t => by rw [htime, octets_eq]; rfl
    obtain rfl : count = countField := funext fun t => by rw [hcount, octets_eq]; rfl
    obtain rfl : small = octet1 := funext fun t => by rw [hsmall, octets_eq]; rfl
    obtain rfl : rate = octet4 := funext fun t => by rw [hrate, octets_eq]; rfl
    obtain rfl : rung = rungField := funext fun t => by rw [hrung, octets_eq, flag_eq]; rfl
    rw [State.counted_slots, State.counted_flows]
    · simp only [octets_eq, flag_eq, present_eq, counted_eq, State.projection_eq, State.sessionPayload, effectiveField, ladderGroup,
        State.bufferGroup, State.shareGroup, rungGroup, State.gateGroup, drawGroup, statsGroup, optField_map]
      have zero : octet1 0 = [0] := rfl
      have one : octet1 1 = [1] := rfl
      have two : octet1 2 = [2] := rfl
      have follower : followerField = fun e => octet1 e.index.val ++ (listField octet1 e.map.toList ++ flagField e.isDefault) :=
        funext fun e => List.append_assoc ..
      delta profileField askField
      cases role : (s.session i).role <;>
        simp only [roleGroup, role, List.append_assoc, pinsField, octet2, octet4, Ladder.count, State.askOf, State.flowsOf, zero,
          one, two, follower, List.cons_append, List.nil_append]
    · intro e
      cases remote : e.key.remote <;>
        simp [octets_eq, present_eq, flowField, keyField, ipField, remote, octet1, octet2, bigEndian]
    · intro k x held
      cases phase : x.phase <;>
        simp [octets_eq, flag_eq, present_eq, slotField, held, phase, Slot.isReceiving, SlotPhase.first?, SlotPhase.last?, optField,
          octet1, octet4, bigEndian]

end Sys2Proof.Machine

/-! SUPPORT. O21, that every event which changes a pending set is followed by the comparison, fails at a window end that
raises two causes on one session. Session 0 is LATCHED and pending already and no ATTENTION told it yet. Two LIVE contenders
overdraw in one window: session 1 is evaluated first, and the comparison behind its overdraw tells session 0's LATCHED, the top
attention, with session 0's pending causes; session 0's own overdraw then adds OVERDRAW to that set and leaves the top pair the
one last sent, so no ATTENTION with the pending causes of the state behind the command is queued. -/

namespace Sys2Proof.Machine

/-- A LIVE profile of default values. -/
def liveProfile : Profile :=
  ProfileNote.build { session := 0, weight := none, cls := none, uplinkPriority := .omitted, bufferTarget := none,
                      lowGuard := none, panicLevel := none, upHold := none, freshnessLimit := .omitted,
                      stallThreshold := none, outstandingLimit := none, drawKind := some .live, retryLimit := none,
                      retryInterval := none, pins := none, initialSpeed := none, defaultCeiling := none }

/-- A LIVE contender under supervision that drew far more than its share in the window, with pending causes. -/
def overdrawn (causes : CauseSet) : Session :=
  { Session.starting .streaming 0 with
    profile := some liveProfile, eff := some liveProfile.effective
    published := some { rungs := [{ bitrate := 1000, skip := false }], fallback := 0 }
    rung := some 0, causes := causes
    draw := { phase := .watching, settled := true, windowBytes := 1000000, receivingMark := true } }

/-- A fetch of a session that is under way. -/
def fetchOf (i : SessionIx) : Slot :=
  { session := i, tag := 0, segment := 0, duration := 2000, rung := 0, bitrate := 1000, generation := 0, grantTime := 0,
    deadline := none, expiry := 60000, missed := false, bytes := 0, phase := .receiving 50 90, overLow := false,
    order := i.val }

/-- A claimed part at the end of its first window, with the two contenders, session 0's LATCHED still untold. -/
def twoOverdraws : State :=
  let records := (State.reset.modSession 0 fun _ => overdrawn Cause.latched.bit).modSession 1 fun _ => overdrawn 0
  { (records.setSlot 0 (some (fetchOf 0))).setSlot 1 (some (fetchOf 1)) with
    time := 100, control.claim := some { part := 2, player := 4 } }

/-- The state behind the window end that evaluates session 1 first. -/
def twoOverdrawsJudged : State := twoOverdraws.endWindow [1, 0]

theorem exec_twoOverdraws : exec (.drawWindow [1, 0]) twoOverdraws = .next twoOverdrawsJudged := rfl

theorem twoOverdrawsJudged_causes : (twoOverdrawsJudged.session 0).causes = Cause.latched.bit ||| Cause.overdraw.bit := by
  decide +kernel

theorem twoOverdrawsJudged_top : twoOverdrawsJudged.topAttention = some (.latched, 0) := by decide +kernel

/-- The ATTENTION that is queued tells LATCHED alone. -/
theorem twoOverdrawsJudged_notes : ∀ f ∈ twoOverdrawsJudged.path.reportQueue, ∀ n ∈ f.notes,
    n = .attention { cause := .latched, session := 0, pending := Cause.latched.bit } := by
  decide +kernel

/-- Refutes O21: a window end that adds a cause to the top attention's session behind the comparison leaves an ATTENTION with the
pending causes it had before. -/
theorem not_changedCausesAreAnnounced : ¬ Obligations.ChangedCausesAreAnnounced := by
  intro announced
  have changed : (twoOverdrawsJudged.session 0).causes ≠ (twoOverdraws.session 0).causes := by
    rw [twoOverdrawsJudged_causes]; decide
  obtain ⟨-, told⟩ := announced (.drawWindow [1, 0]) twoOverdraws twoOverdrawsJudged rfl nofun nofun nofun exec_twoOverdraws
    (.inr ⟨0, changed⟩)
  obtain ⟨-, queued⟩ := told _ twoOverdrawsJudged_top (by decide +kernel) (by decide +kernel)
  obtain ⟨f, hf, -, a, ha, -, -, pending⟩ := queued nofun
  have latchedOnly := OutNote.attention.inj (twoOverdrawsJudged_notes f hf _ ha)
  rw [latchedOnly, if_neg (by decide), twoOverdrawsJudged_causes] at pending
  exact absurd pending (by decide)

end Sys2Proof.Machine

/-! SUPPORT. Device time (O5): what a step does with no command waiting. -/

namespace Sys2Proof.Machine

section
variable {s t : State} {c : Instr}

theorem takingBatch_of_asserted (held : s.resetAsserted = true) (f : Batch → State) : (match s.takingBatch with
    | none => Host.Outcome.next s
    | some b => .next (f b) : Host.Outcome State Fault Refusal) = .next s := by
  simp [State.takingBatch, held]

/-- The asserted reset input holds the part (R1; log entry 15). -/
theorem exec_of_asserted (held : s.resetAsserted = true) (power : c ≠ .powerOn) (input : c ≠ .resetInput)
    (release : c ≠ .resetInputRelease) : exec c s = .next s := by
  cases c
  case powerOn => exact absurd rfl power
  case resetInput => exact absurd rfl input
  case resetInputRelease => exact absurd rfl release
  case claim | setup | deviceStatus | linkSnapshot | linkRestart | deviceReset | openSession | sessionReset | closeSession |
      sessionStatus | profile | ladderLoad | tether | untether | rearm | flowBind | flowUnbind | askFetch | doneFetch |
      abortFetch | play | unknownNote => exact takingBatch_of_asserted held _
  all_goals exact congrArg Host.Outcome.next (if_pos held)

/-- A command leaves the time, but for a reset, which takes it back to 0. -/
theorem exec_time (h : exec c s = .next t) (power : c ≠ .powerOn) (input : c ≠ .resetInput) :
    t.time = s.time ∨ (s.control.resetPhase ≠ .quiet ∧ t.time = 0) := by
  rcases exec_acts h with k | ⟨e, he, k⟩
  · exact .inl (congrArg State.time k.apart :)
  have kept : t.time = e.time := (congrArg State.time k.apart :)
  by_cases taken : c = .deviceResetTaken
  · subst taken
    cases he with
    | deviceResetTaken due =>
      refine .inr ⟨fun quiet => ?_, kept⟩
      simp [s.resetCanBeTaken_iff, quiet] at due
  · exact .inl (kept.trans (he.pending_resetAsserted_time.2.2 power input taken))

/-! What is due. -/

/-- A note of a control frame is no reset of the part. -/
theorem decodeNote_ne {r : RawNote} (h : decodeNote r = some c) : c ≠ .powerOn ∧ c ≠ .resetInput := by
  unfold decodeNote at h
  split at h
  · split at h <;> cases h <;> exact ⟨nofun, nofun⟩
  · cases h
  · cases h

theorem State.dueCommands_of_due (h : s.control.resetPhase = .due) : s.dueCommands = [.deviceResetTaken] := by
  simp [State.dueCommands, h]

theorem State.dueCommands_of_ne_due (h : s.control.resetPhase ≠ .due) : s.dueCommands = s.dueNotes ++
    (if s.msDue && s.meterBusy && decide (s.meter.busyAcc < samplePeriod) then [.busyMillisecond] else []) ++
    (if samplePeriod ≤ s.meter.busyAcc then [.linkSample] else []) ++
    (if timerReached s.time s.gate.spacingHold then [.spacingHoldExpiry] else []) ++
    (if s.windowDue then [.drawWindow (Config.windowOrder s.choices)] else []) ++
    allSessions.flatMap s.dueOfSession ++ allSlots.flatMap s.dueOfSlot ++ s.dueFlows ++ s.dueTransmissions := by
  unfold State.dueCommands
  cases phase : s.control.resetPhase <;> simp_all

theorem State.dueNotes_ne (h : c ∈ s.dueNotes) : c ≠ .powerOn ∧ c ≠ .resetInput := by
  unfold State.dueNotes at h
  split at h
  · obtain ⟨r, -, hr⟩ := Option.bind_eq_some_iff.mp (Option.mem_toList.mp h)
    exact decodeNote_ne hr
  · split at h
    · cases h
    · cases List.mem_singleton.mp h; exact ⟨nofun, nofun⟩

theorem State.dueOfSlot_ne {k : SlotIx} (h : c ∈ s.dueOfSlot k) : c ≠ .powerOn ∧ c ≠ .resetInput := by
  unfold State.dueOfSlot at h
  split at h
  · cases h
  · simp only [List.mem_append, List.mem_ite_nil_right, List.mem_singleton] at h
    rcases h with ⟨-, rfl⟩ | ⟨-, rfl⟩ <;> exact ⟨nofun, nofun⟩

/-- A due command is neither of the resets from outside. -/
theorem State.dueCommands_ne (h : c ∈ s.dueCommands) : c ≠ .powerOn ∧ c ≠ .resetInput := by
  by_cases due : s.control.resetPhase = .due
  · rw [State.dueCommands_of_due due, List.mem_singleton] at h
    subst h; exact ⟨nofun, nofun⟩
  rw [State.dueCommands_of_ne_due due] at h
  simp only [List.mem_append, List.mem_ite_nil_right, List.mem_singleton, List.mem_flatMap, State.dueFlows, List.mem_map,
    State.dueTransmissions, State.dueOfSession] at h
  rcases h with (((early | ⟨i, -, timer⟩) | ⟨k, -, slot⟩) | ⟨e, -, rfl⟩) | ⟨-, rfl⟩ | ⟨-, rfl⟩
  · rcases early with (((note | ⟨-, rfl⟩) | ⟨-, rfl⟩) | ⟨-, rfl⟩) | ⟨-, rfl⟩
    · exact State.dueNotes_ne note
    all_goals exact ⟨nofun, nofun⟩
  · rcases timer with (((⟨-, rfl⟩ | ⟨-, rfl⟩) | ⟨-, rfl⟩) | ⟨-, rfl⟩) | ⟨-, rfl⟩ <;> exact ⟨nofun, nofun⟩
  · exact State.dueOfSlot_ne slot
  all_goals exact ⟨nofun, nofun⟩

end

/-! Each kind of timer is among what is due once it is reached. -/

section
variable {s : State} (open_ : s.control.resetPhase ≠ .due)

theorem timerReached_eq_true {now : Time} {o : Option Time} {d : Time} (h : o = some d) (hd : reached now d = true) :
    timerReached now o = true := by simp [timerReached, h, hd]

theorem timerReached_eq_false {now : Time} {o : Option Time} (h : ∀ d, o = some d → reached now d = false) :
    timerReached now o = false := by
  cases o with
  | none => rfl
  | some d => exact h d rfl

include open_

theorem State.mem_dueCommands_of_session {i : SessionIx} {c : Instr} (h : c ∈ s.dueOfSession i) : c ∈ s.dueCommands := by
  rw [State.dueCommands_of_ne_due open_]
  have : c ∈ allSessions.flatMap s.dueOfSession := List.mem_flatMap.mpr ⟨i, mem_allSessions i, h⟩
  simp [this]

theorem State.mem_dueCommands_of_slot {k : SlotIx} {c : Instr} (h : c ∈ s.dueOfSlot k) : c ∈ s.dueCommands := by
  rw [State.dueCommands_of_ne_due open_]
  have : c ∈ allSlots.flatMap s.dueOfSlot := List.mem_flatMap.mpr ⟨k, List.mem_finRange k, h⟩
  simp [this]

end

/-- The flow of time (O5): with nothing due and both ports idle the only move is the next millisecond. -/
theorem State.NothingDue.dueCommands {s : State} (h : s.NothingDue) : s.dueCommands = [] := by
  obtain ⟨reset, ⟨batch, input⟩, ⟨ms, acc⟩, window, spacing, timers, slots, flows, station, line, -⟩ := h
  have sessions : ∀ i, s.dueOfSession i = [] := fun i => by
    have empty := timerReached_eq_false fun d hd => timers i d (.inl hd)
    have fresh := timerReached_eq_false fun d hd => timers i d (.inr (.inl hd))
    have up := timerReached_eq_false fun d hd => timers i d (.inr (.inr (.inl hd)))
    have drain := timerReached_eq_false fun d hd => timers i d (.inr (.inr (.inr (.inl hd))))
    have retry : (decide ((s.session i).draw.phase = .retryWait) && timerReached s.time (s.session i).draw.retryTimer) = false := by
      by_cases phase : (s.session i).draw.phase = .retryWait
      · simp [timerReached_eq_false fun d hd => timers i d (.inr (.inr (.inr (.inr ⟨phase, hd⟩))))]
      · simp [phase]
    simp [State.dueOfSession, empty, fresh, up, drain, retry]
  have slotTimers : ∀ k, s.dueOfSlot k = [] := fun k => by
    unfold State.dueOfSlot
    split
    · rfl
    · next x hx =>
      obtain ⟨expiry, deadline⟩ := slots k x hx
      have ahead : x.deadlineReached s.time = false := by
        cases missed : x.missed
        · simp [Slot.deadlineReached, missed, timerReached_eq_false fun d hd => deadline d missed hd]
        · simp [Slot.deadlineReached, missed]
      simp [expiry, ahead]
  have idle : s.dueFlows = [] := by
    have none : s.flows.filter (fun e => e.isIdle s.time s.setup.idleLimit) = [] :=
      List.filter_eq_nil_iff.mpr fun e he idle => absurd (flows e he) (Nat.not_lt.mpr (of_decide_eq_true idle))
    simp [State.dueFlows, none]
  have stationWaits : s.stationReady = false := by
    unfold State.stationReady
    rcases station with down | empty
    · simp [down]
    · split at empty <;> simp_all
  have lineWaits : s.lineReady = false := by
    rcases line with down | empty
    · simp [State.lineReady, down]
    · simp [State.lineReady, empty]
  rw [State.dueCommands_of_ne_due reset]
  have hacc : ¬ samplePeriod ≤ s.meter.busyAcc := by unfold samplePeriod; omega
  simp [State.dueNotes, batch, input, ms, hacc, timerReached_eq_false spacing, window, sessions, slotTimers, idle,
    State.dueTransmissions, stationWaits, lineWaits]

/-- The move that an idle step takes is one of those open to it. -/
theorem State.idle_takes {s : State} (released : s.resetAsserted = false) (open_ : s.moves ≠ []) :
    ∃ m ∈ s.moves, ∃ u : State, u.time = s.time ∧ u.control = s.control ∧ s.idle = u.take m := by
  unfold State.idle
  rw [if_neg (by simp [released])]
  split
  · next none => exact absurd none open_
  · exact ⟨_, by simp_all, s, rfl, rfl, rfl⟩
  · next m n rest moves =>
    have inside : Config.choice s.choices % (rest.length + 2) < (m :: n :: rest).length :=
      Nat.mod_lt _ (by simp)
    refine ⟨_, ?_, { s with choices := s.choices + 1 }, rfl, rfl, rfl⟩
    rw [List.getD_eq_getElem _ _ inside, moves]
    exact List.getElem_mem inside

/-- While something is due a step leaves the time, or takes a pending reset. -/
theorem State.idle_time_of_due {s : State} (released : s.resetAsserted = false) (due : s.dueCommands ≠ []) :
    ∃ t, s.idle = .next t ∧ (t.time = s.time ∨ (s.control.resetPhase ≠ .quiet ∧ t.time = 0)) := by
  have some_move : s.moves ≠ [] := by simp [State.moves, due]
  obtain ⟨m, hm, u, time, control, took⟩ := State.idle_takes released some_move
  have command : ∀ c, c ≠ .powerOn → c ≠ .resetInput → s.idle = u.take (.command c) →
      ∃ t, s.idle = .next t ∧ (t.time = s.time ∨ (s.control.resetPhase ≠ .quiet ∧ t.time = 0)) := by
    intro c power input took
    obtain ⟨t, ht⟩ := exec_next c u
    refine ⟨t, took.trans ht, ?_⟩
    rw [← time, ← control]
    exact exec_time ht power input
  simp only [State.moves, List.mem_append, List.mem_map, List.isEmpty_iff, due, if_false, List.not_mem_nil, or_false] at hm
  rcases hm with (⟨c, hc, rfl⟩ | station) | line
  · obtain ⟨power, input⟩ := State.dueCommands_ne hc
    exact command c power input took
  · unfold State.stationEnd at station
    split at station
    · cases station
    · split at station
      · obtain rfl := List.mem_singleton.mp station
        exact command .deviceResetTaken nofun nofun took
      · cases List.mem_singleton.mp station
        exact ⟨_, took, .inl time⟩
  · unfold State.lineEnd at line
    split at line
    · cases List.mem_singleton.mp line
      exact ⟨_, took, .inl time⟩
    · cases line

/-- Settles O5: a due command leaves the time or takes the pending reset, and with nothing due the one move is the next
millisecond. -/
theorem deviceTimePassesWhenNothingIsDue : Obligations.DeviceTimePassesWhenNothingIsDue := by
  intro s
  refine ⟨fun held => ⟨fun c => exec_of_asserted held, fun waiting => ?_⟩, fun released waiting => ⟨fun nothing => ?_, ?_,
    State.dueCommands_of_due, fun open_ => ⟨fun i d hd => ?_, fun k x hx => ?_, fun window => ?_⟩⟩⟩
  · simp [step, waiting, State.idle, held]
  · obtain ⟨stationIdle, lineIdle⟩ := nothing.idle
    have moves : s.moves = [.millisecond] := by
      simp [State.moves, nothing.dueCommands, State.stationEnd, stationIdle, State.lineEnd, lineIdle]
    have idle : s.idle = s.take .millisecond := by
      unfold State.idle
      rw [if_neg (by simp [released]), moves]
    exact (show step s = s.idle by simp only [step, waiting]).trans idle
  · intro due
    simp only [step, waiting]
    exact State.idle_time_of_due released due
  · have session : ∀ c, c ∈ s.dueOfSession i → c ∈ s.dueCommands := fun c => State.mem_dueCommands_of_session open_
    refine ⟨fun h => session _ ?_, fun h => session _ ?_, fun h => session _ ?_, fun h => session _ ?_,
      fun phase h => session _ ?_, fun h => ?_⟩
    case refine_6 =>
      rw [State.dueCommands_of_ne_due open_]
      simp [timerReached_eq_true h hd]
    case refine_5 => simp [State.dueOfSession, phase, timerReached_eq_true h hd]
    all_goals simp [State.dueOfSession, timerReached_eq_true h hd]
  · refine ⟨fun hd => State.mem_dueCommands_of_slot (k := k) open_ ?_, fun d missed deadline hd => State.mem_dueCommands_of_slot (k := k) open_ ?_⟩
    · simp [State.dueOfSlot, hx, hd]
    · simp [State.dueOfSlot, hx, Slot.deadlineReached, missed, timerReached_eq_true deadline hd]
  · refine ⟨Config.windowOrder s.choices, ?_⟩
    rw [State.dueCommands_of_ne_due open_]
    simp [window]

end Sys2Proof.Machine

/-! SUPPORT. The notes that reset, close, prime and stage one session (O25, O27, O30): the record each leaves, read as the rules
list it. -/

namespace Sys2Proof.Machine

section
variable {s e : State} {b : Batch} {c : Instr} {ty : Byte} {a : Answer}

/-- A session note that R2 and R3 let pass reaches its body. -/
theorem State.sessionNote_admitted {α : Type} {group : NoteGroup} {index : α → Nat} {n : α} {i : SessionIx} (named : index n = i.val)
    (admitted : admission group (s.session i).admin = none) (body : SessionIx → α → State × Answer) :
    s.sessionNote group index (some n) body = body i n := by
  simp [State.sessionNote, State.checkSession, named, sessionIx?_val, admitted]

/-- A plain note whose body works at the gate does what its body does. -/
theorem State.Hears.doesAtGate {body : State → State × Answer} (hears : s.Hears b) (plain : plainNote c = some (ty, body))
    (result : body s = (e, a)) (work : GateWork s e) (bare : a.payload = none) : NoteDoes c s b e ty a.code a.detail :=
  hears.does plain result work.batch bare

/-- A change of a record is known by what it makes of that record. -/
theorem State.modSession_congr {i : SessionIx} {f g : Session → Session} (h : f (s.session i) = g (s.session i)) :
    s.modSession i f = s.modSession i g := by
  have records : f s.sessions[i] = g s.sessions[i] := h
  simp only [State.modSession, records]

end

/-! Releasing the slots of a session (R16, R110). -/

theorem State.foldl_free_slot (l : List (SlotIx × Slot)) (s : State) (k : SlotIx) :
    (l.foldl (fun t p => t.setSlot p.1 none) s).slot k = if k ∈ l.map Prod.fst then none else s.slot k := by
  induction l generalizing s with
  | nil => simp
  | cons p l ih =>
    rw [List.foldl_cons, ih]
    by_cases hk : k = p.1
    · simp [hk]
    · simp only [State.setSlot_slot_ne _ _ _ _ hk, List.map_cons, List.mem_cons, hk, false_or]

theorem State.releaseSlots_slot (s : State) (i : SessionIx) (k : SlotIx) [Decidable (∃ x, s.slot k = some x ∧ x.session = i)] :
    (s.releaseSlots i).slot k = if ∃ x, s.slot k = some x ∧ x.session = i then none else s.slot k := by
  have own : k ∈ (s.slotsOf i).map Prod.fst ↔ ∃ x, s.slot k = some x ∧ x.session = i := by
    simp [State.mem_slotsOf]
  rw [State.releaseSlots, State.foldl_free_slot]
  simp only [own]

theorem State.releaseSlots_askQueue (s : State) (i : SessionIx) : (s.releaseSlots i).gate.askQueue = s.gate.askQueue := by
  have kept : ∀ (l : List (SlotIx × Slot)) (t : State),
      (l.foldl (fun t p => t.setSlot p.1 none) t).gate.askQueue = t.gate.askQueue := by
    intro l
    induction l with
    | nil => exact fun _ => rfl
    | cons p l ih => exact fun t => ih _
  exact kept _ s

/-! Leaving a tether (R145). -/

theorem State.leaveLeader_of_leader {s : State} {l f : SessionIx} {fs : List FollowerEntry}
    (role : (s.session l).role = .leader fs) : s.leaveLeader l f = s.modSession l fun x => { x with
      role := if fs.filter (fun e => decide (e.index ≠ f)) = [] then .independent
              else .leader (fs.filter fun e => decide (e.index ≠ f)) } :=
  State.modSession_congr (by rw [role, TetherRole.leave_leader])

/-! The record that SESSION RESET leaves (R16). -/

theorem State.slotsOf_isEmpty_iff (s : State) (i : SessionIx) : (s.slotsOf i).isEmpty = true ↔
    ¬ ∃ k x, s.slot k = some x ∧ x.session = i := by
  simp only [List.isEmpty_iff, List.eq_nil_iff_forall_not_mem, Prod.forall, State.mem_slotsOf, not_exists]

/-- SESSION RESET in the words of R16, for the reset and for the close. -/
theorem State.resetSession_eq {start s emptied shared examined : State} {i : SessionIx} {admin : Admin}
    (records : start.sessions = s.sessions) (gate : start.gate = s.gate) (time : start.time = s.time)
    (hemptied : emptied = (((start.dissolve i).releaseSlots i).removeAsk i).modSession i fun x => x.afterReset admin s.time)
    (hshared : shared = if (s.session i).isContender = true ∨ (s.session i).role ≠ .independent then emptied.recompute else emptied)
    (freed : (∃ k x, s.slot k = some x ∧ x.session = i) → examined = shared.examine)
    (kept : (¬ ∃ k x, s.slot k = some x ∧ x.session = i) → examined = shared) :
    start.resetSession i admin = examined := by
  have session : start.session i = s.session i := congrArg (fun v : Vector Session 16 => v[i]) records
  have slots : start.slotsOf i = s.slotsOf i := by simp only [State.slotsOf, State.slot, gate]
  unfold State.resetSession
  extract_lets x u cleared shared'
  have hcleared : cleared = emptied := by rw [hemptied, ← time]; rfl
  have hshared' : shared' = shared := by
    simp only [shared', hshared, hcleared, x, session, Bool.or_eq_true, decide_eq_true_eq]
  rw [slots, hshared']
  by_cases held : ∃ k x, s.slot k = some x ∧ x.session = i
  · rw [if_neg fun none => (s.slotsOf_isEmpty_iff i).mp none held, freed held]
  · rw [if_pos ((s.slotsOf_isEmpty_iff i).mpr held), kept held]

/-- Settles O25: SESSION RESET and CLOSE reach resetSession, whose parts are read one by one. -/
theorem resetAndCloseClearTheSession : Obligations.ResetAndCloseClearTheSession := by
  refine ⟨fun s start b i emptied shared examined admin hears opened hemptied hshared hexamined => ⟨?_, ?_⟩, fun s i =>
    ⟨fun role => ?_, fun l fs others role leads hothers => ?_, rfl, s.releaseSlots_sessions i, s.releaseSlots_askQueue i,
      fun k => s.releaseSlots_slot i k⟩⟩
  · rintro rfl rfl
    have leaves := State.resetSession_eq (s := start) (examined := examined) rfl rfl rfl hemptied hshared
      (fun h => by rw [hexamined, if_pos h]) (fun h => by rw [hexamined, if_neg h])
    have result : start.resetBody (some i.val) = (examined, Answer.done false) := by
      rw [State.resetBody, State.sessionNote_admitted (index := id) rfl (admission_anySession.mpr opened), leaves]
    exact hears.doesAtGate (c := .sessionReset (some i.val)) rfl result (leaves ▸ start.resetSession_gateWork i _) rfl
  · rintro rfl rfl
    have leaves := State.resetSession_eq (s := s) (start := s.removeFlows i) (examined := examined) rfl rfl rfl hemptied hshared
      (fun h => by rw [hexamined, if_pos h]) (fun h => by rw [hexamined, if_neg h])
    have result : s.closeBody (some i.val) = (examined, Answer.done false) := by
      rw [State.closeBody, State.sessionNote_admitted (index := id) rfl (admission_anySession.mpr opened)]
      exact Prod.ext leaves rfl
    have work := (s.removeFlows i).resetSession_gateWork i .vacant
    exact hears.does (c := .closeSession (some i.val)) rfl result ((leaves ▸ work : GateWork (s.removeFlows i) _).batch) rfl
  · simp [State.dissolve, role]
  · subst hothers
    rw [State.dissolve, role]
    exact State.leaveLeader_of_leader leads

/-! PROFILE on an UNPROFILED session (R8). -/

theorem build_guards (n : ProfileNote) : n.build.lowGuard ≤ n.build.bufferTarget ∧
    n.build.panicLevel ≤ n.build.lowGuard := by
  have target : 2000 ≤ n.targetValue := (fieldOr_mem (by decide) _).1
  have guards : n.guardValue ≤ n.targetValue := (fieldOr_mem (by omega) _).2
  exact ⟨guards, fieldOr_le (by omega) _⟩

/-- A profile whose levels stand in order gives its own guards. -/
theorem Profile.effective_of_ordered {p : Profile} (guard : p.lowGuard ≤ p.bufferTarget) (panic : p.panicLevel ≤ p.lowGuard) :
    p.effective = { ceiling := p.defaultCeiling, ceilingSource := if p.pins.ceiling then .pinned else .profile
                    target := p.bufferTarget, targetSource := if p.pins.target then .pinned else .profile
                    speed := p.initialSpeed, speedSource := if p.pins.speed then .pinned else .profile
                    lowGuard := p.lowGuard, panicLevel := p.panicLevel } := by
  simp [Profile.effective, profileSource, min_eq_left guard, min_eq_left panic]

/-- A STOPPED session without effective values re-anchors where it stands and runs no empty point (R56, R57, R61). -/
theorem Session.setEffective_of_stopped {x : Session} (unset : x.eff = none) (stopped : x.buffer.playback = .stopped) (now : Time)
    (e : Effective) : x.setEffective now e =
      { x with buffer := { x.buffer with anchorTime := now, emptyPoint := none }, eff := some e } := by
  simp [Session.setEffective, unset, Session.withEmptyPoint, Session.emptyPointOf, Session.reAnchor, Session.anchorAt,
    Session.level, stopped]

theorem Session.startDraw_eq {x : Session} {p : Profile} (profile : x.profile = some p) (now : Time) : x.startDraw now =
    { x with draw := if p.drawKind = .unwatched then { x.draw with phase := .off, openMark := false }
                     else { x.draw with phase := .watching, openMark := decide (p.drawKind = .start), entryTime := some now
                                        settled := false } } := by
  cases kind : p.drawKind <;> simp [Session.startDraw, Session.drawKind, profile, kind, Session.enterSupervision]

/-- Settles O27: the record before its examination, field by field. -/
theorem profilePrimesTheSession : Obligations.ProfilePrimesTheSession := by
  rintro s b n i p hears named unprofiled free unset stopped rfl
  obtain ⟨guard, panic⟩ := build_guards n
  have record : s.prime i n.build = State.examine (s.modSession i fun x => { x with
        admin := .primed, profile := some n.build
        eff := some { ceiling := n.build.defaultCeiling
                      ceilingSource := if n.build.pins.ceiling then .pinned else .profile
                      target := n.build.bufferTarget, targetSource := if n.build.pins.target then .pinned else .profile
                      speed := n.build.initialSpeed, speedSource := if n.build.pins.speed then .pinned else .profile
                      lowGuard := n.build.lowGuard, panicLevel := n.build.panicLevel }
        buffer := { x.buffer with anchorTime := s.time, emptyPoint := none }
        draw :=
          if n.build.drawKind = .unwatched then { x.draw with phase := .off, openMark := false }
          else { x.draw with phase := .watching, openMark := decide (n.build.drawKind = .start), entryTime := some s.time
                             settled := false } }) := by
    refine congrArg State.examine (State.modSession_congr ?_)
    rw [Session.setEffective_of_stopped unset stopped, Session.startDraw_eq rfl, Profile.effective_of_ordered guard panic]
  have follows : (s.session i).follows = false := by simp [Session.follows, free]
  have result : s.profileBody (some n) = (s.prime i n.build, Answer.done n.clamped) := by
    rw [State.profileBody, State.sessionNote_admitted named (admission_anySession.mpr (by simp [unprofiled]))]
    simp [follows, unprofiled]
  have done := hears.doesAtGate (c := .profile (some n)) rfl result (s.prime_gateWork i n.build) rfl
  rw [record] at done
  exact done

/-! LADDER LOAD's writes (R23). -/

theorem Staging.write_rung? (rs : List Rung) (g : Staging) (first k : Nat) (room : first + rs.length ≤ 12) :
    (g.write first rs).rung? k =
      if first ≤ k ∧ k < first + rs.length then rs[k - first]? else g.rung? k := by
  induction rs generalizing g first with
  | nil => simp [Staging.write]
  | cons r rs ih =>
    simp only [List.length_cons] at room
    rw [Staging.write, ih _ _ (by omega)]
    by_cases here : k = first
    · subst here
      have inside : k < 12 := by omega
      simp [Staging.rung?, inside]
    · have other : ({ g with rungs := g.rungs.setIfInBounds first (some r) } : Staging).rung? k = g.rung? k := by
        simp [Staging.rung?, Ne.symm here]
      rw [other]
      by_cases within : first ≤ k ∧ k < first + (rs.length + 1)
      · obtain ⟨d, rfl⟩ : ∃ d, k = first + 1 + d := ⟨k - (first + 1), by omega⟩
        have next : first + 1 + d - first = d + 1 := by omega
        rw [if_pos (by omega), if_pos (by simpa using within), next]
        simp
      · rw [if_neg (by omega), if_neg (by simpa using within)]

/-- The staged records behind a LADDER LOAD: its own, clamped, from its first index on, and the others as they were. -/
theorem Staging.load_rung? (g : Staging) (n : LadderNote) (room : n.first + n.records.length ≤ 12) (k : Nat) :
    (g.load n).rung? k = if n.first ≤ k ∧ k < n.first + n.records.length then (n.records[k - n.first]?).map clampRung
                         else g.rung? k := by
  have written := Staging.write_rung? (n.records.map clampRung) g n.first k (by simpa using room)
  rw [List.length_map, List.getElem?_map] at written
  exact written

/-- A staging ladder is its twelve records, its rung count and its fallback index. -/
theorem Staging.ext_rung? {g h : Staging} (rungs : ∀ k, k < 12 → g.rung? k = h.rung? k) (count : g.count = h.count)
    (fallback : g.fallback = h.fallback) : g = h := by
  obtain ⟨gc, gr, gf⟩ := g
  obtain ⟨hc, hr, hf⟩ := h
  obtain rfl : gc = hc := count
  obtain rfl : gf = hf := fallback
  have same : gr = hr := by
    apply Vector.ext
    intro k hk
    simpa [Staging.rung?, hk] using rungs k hk
  rw [same]

theorem outside_some_eq_false_iff {lo hi v : Nat} (h : lo ≤ hi) : outside lo hi (some v) = false ↔ lo ≤ v ∧ v ≤ hi := by
  have : outside lo hi (some v) = decide (clampTo lo hi v ≠ v) := rfl
  rw [this, decide_eq_false_iff_not, not_not, clampTo]
  omega

theorem LadderNote.clamped_eq_false_iff (n : LadderNote) : n.clamped = false ↔
    (∀ r ∈ n.records, 100 ≤ r.bitrate ∧ r.bitrate ≤ 65000) ∧
      (∀ c, n.rungCount = some c → 1 ≤ c ∧ c ≤ 12) ∧ (∀ f, n.fallback = some f → f ≤ 11) := by
  have given : ∀ {lo hi : Nat} (o : Option Nat), lo ≤ hi →
      (outside lo hi o = false ↔ ∀ v, o = some v → lo ≤ v ∧ v ≤ hi) := by
    intro lo hi o h
    cases o with
    | none => simp [outside]
    | some v => simp [outside_some_eq_false_iff h]
  rw [LadderNote.clamped, Bool.or_eq_false_iff, Bool.or_eq_false_iff, and_assoc, given n.rungCount (by decide),
    given n.fallback (by decide), List.any_eq_false]
  simp only [Bool.not_eq_true, outside_some_eq_false_iff (show 100 ≤ 65000 by decide), Nat.zero_le, true_and]

/-- Settles O30: the note's writes give the staging ladder the statement describes. -/
theorem ladderLoadStages : Obligations.LadderLoadStages := by
  rintro s b n i _ h hears named opened stage nonempty room rfl rungs count fallback clamped hclamped
  have written : h = (s.session i).staging.load n :=
    Staging.ext_rung? (fun k hk => (rungs k hk).trans (Staging.load_rung? _ n room k).symm) count fallback
  have whole : n.malformed = false := by
    simp only [LadderNote.malformed, Bool.or_eq_false_iff, decide_eq_false_iff_not, List.isEmpty_eq_false_iff]
    exact ⟨⟨List.length_pos_iff.mp nonempty, by omega⟩, by omega⟩
  have agree : n.clamped = clamped := by
    rw [Bool.eq_iff_iff, ← not_iff_not, Bool.not_eq_true, Bool.not_eq_true, LadderNote.clamped_eq_false_iff, hclamped]
  have staged : (s.modSession i fun x => { x with staging := x.staging.load n }) =
      s.modSession i fun x => { x with staging := h } := State.modSession_congr (by rw [written])
  have result : s.ladderBody (some n) =
      (s.modSession i fun x => { x with staging := h }, Answer.done clamped) := by
    have kept : (some n).filter (fun n : LadderNote => !n.malformed) = some n := by simp [Option.filter, whole]
    rw [State.ladderBody, kept, State.sessionNote_admitted named (by simpa [stage] using admission_anySession.mpr opened)]
    simp only [stage, agree]
    exact Prod.ext staged rfl
  exact hears.doesAtGate (c := .ladderLoad (some n)) rfl result (s.modSession_records i _).gate rfl

end Sys2Proof.Machine

/-! SUPPORT. UNTETHER and the leader's reset (O36), REARM (O37), and the flow table's notes and idleness (O38). -/

namespace Sys2Proof.Machine

/-! Releasing a follower (R152). -/

theorem Session.drawKind_of_profile {x : Session} {p : Profile} (profile : x.profile = some p) : x.drawKind = p.drawKind := by
  simp [Session.drawKind, profile]

theorem Session.released_eq_afterRelease {x : Session} {p : Profile} (profile : x.profile = some p) (now : Time) :
    x.released now = x.afterRelease p.drawKind now := by
  unfold Session.released Session.afterRelease
  rw [Session.drawKind_of_profile profile]
  cases p.drawKind with
  | unwatched => rfl
  | start => by_cases streaming : x.admin = .streaming <;> simp [Session.isStreaming, streaming, Session.enterSupervision]
  | live => rfl

section
variable {s : State} {i l : SessionIx} {fs : List FollowerEntry} {p : Profile}

/-- A follower's release, in the words of R145 and R152. -/
theorem State.release_eq (follows : (s.session i).role = .follower l) (leads : (s.session l).role = .leader fs)
    (profile : (s.session i).profile = some p) : s.release l i =
      (s.modSession l fun x => { x with
        role := if fs.filter (fun e => decide (e.index ≠ i)) = [] then .independent
                else .leader (fs.filter fun e => decide (e.index ≠ i)) }).modSession i
        fun x => x.afterRelease p.drawKind s.time := by
  have distinct : i ≠ l := by
    rintro rfl
    simp [follows] at leads
  rw [State.release, State.leaveLeader_of_leader leads]
  refine State.modSession_congr (Session.released_eq_afterRelease ?_ s.time)
  rw [State.modSession_session_ne _ _ _ _ distinct]
  exact profile

theorem State.dissolve_leader (leads : (s.session i).role = .leader fs) : s.dissolve i = s.releaseAll i := by
  simp only [State.dissolve, leads]

theorem State.untetherBody_follower (profiled : (s.session i).admin = .primed ∨ (s.session i).admin = .streaming)
    (follows : (s.session i).role = .follower l) :
    s.untetherBody (some i.val) = ((s.release l i).recompute, Answer.done false) := by
  rw [State.untetherBody, State.sessionNote_admitted (index := id) rfl (admission_profiled.mpr profiled)]
  simp only [follows]

theorem State.untetherBody_other (profiled : (s.session i).admin = .primed ∨ (s.session i).admin = .streaming)
    (free : ∀ l, (s.session i).role ≠ .follower l) :
    s.untetherBody (some i.val) = (s, { code := .tetherInvalid, detail := some 4 }) := by
  rw [State.untetherBody, State.sessionNote_admitted (index := id) rfl (admission_profiled.mpr profiled)]
  cases role : (s.session i).role with
  | follower l => exact absurd role (free l)
  | independent => rfl
  | leader fs => rfl

end

/-- Settles O36: UNTETHER releases its follower, and a dissolved leader releases each of its own. -/
theorem untetherReleasesTheFollower : Obligations.UntetherReleasesTheFollower := by
  intro s b i p hears profiled profile
  refine ⟨fun free => ?_, fun l fs others follows leads hothers => ?_, fun fs leads distinct listed => ⟨fun e he q hq => ?_,
    fun j hj unlisted => ?_⟩⟩
  · exact hears.does (c := .untether (some i.val)) rfl (State.untetherBody_other profiled free) rfl rfl
  · subst hothers
    have work : GateWork s (s.release l i).recompute :=
      (s.release_records l i).gate.trans (State.recompute_shares _).gate
    have done := hears.doesAtGate (c := .untether (some i.val)) rfl (State.untetherBody_follower profiled follows) work rfl
    rw [State.release_eq follows leads profile] at done
    exact done
  · rw [State.dissolve_leader leads, State.releaseAll_session s leads distinct (fun e he => (listed e he).1) (listed e he).1,
      if_pos ⟨e, he, rfl⟩]
    exact Session.released_eq_afterRelease hq s.time
  · rw [State.dissolve_leader leads, State.releaseAll_session s leads distinct (fun e he => (listed e he).1) hj,
      if_neg fun ⟨e, he, hj⟩ => unlisted e he hj]

/-! REARM (R142). -/

theorem Session.follows_eq_true_iff (x : Session) : x.follows = true ↔ ∃ l, x.role = .follower l := by
  unfold Session.follows
  cases x.role <;> simp

theorem Session.follows_eq_false_iff (x : Session) : x.follows = false ↔ ∀ l, x.role ≠ .follower l := by
  rw [← Bool.not_eq_true, x.follows_eq_true_iff, not_exists]

theorem Session.rearmed_eq_afterRearm {x : Session} {p : Profile} (profile : x.profile = some p) (now : Time) :
    x.rearmed now = x.afterRearm p.drawKind now := by
  unfold Session.rearmed Session.afterRearm
  rw [Session.drawKind_of_profile profile]
  cases p.drawKind with
  | unwatched => rfl
  | start => by_cases streaming : x.admin = .streaming <;>
      simp [Session.isStreaming, streaming, Session.openStaircase, Session.enterSupervision, Session.drawCleared]
  | live => rfl

section
variable {s : State} {i : SessionIx}

theorem Session.isContender_iff {x : Session} (free : ∀ l, x.role ≠ .follower l) : x.isContender = true ↔ x.admin = .streaming := by
  simp [Session.isContender, Session.isStreaming, x.follows_eq_false_iff.mpr free]

theorem State.rearm_of_off (off : (s.session i).draw.phase = .off) : s.rearm i = s := by
  simp only [State.rearm, off]

/-- A REARM of a supervised session that is no follower, in the words of R142. -/
theorem State.rearm_of_supervised {p : Profile} (on : (s.session i).draw.phase ≠ .off) (free : ∀ l, (s.session i).role ≠ .follower l)
    (profile : (s.session i).profile = some p) : s.rearm i =
      if (s.session i).draw.cap ≠ none ∧ (s.session i).admin = .streaming then
        State.recompute (s.modSession i fun x => x.afterRearm p.drawKind s.time)
      else s.modSession i fun x => x.afterRearm p.drawKind s.time := by
  have record : s.modSession i (fun y => y.rearmed s.time) = s.modSession i fun x => x.afterRearm p.drawKind s.time :=
    State.modSession_congr (Session.rearmed_eq_afterRearm profile s.time)
  have contends : ((s.session i).draw.cap.isSome && (s.session i).isContender) = true ↔
      (s.session i).draw.cap ≠ none ∧ (s.session i).admin = .streaming := by
    rw [Bool.and_eq_true, Session.isContender_iff free, Option.isSome_iff_ne_none]
  unfold State.rearm
  rw [record]
  simp only [contends]
  cases phase : (s.session i).draw.phase with
  | off => exact absurd phase on
  | watching => rfl
  | retryWait => rfl
  | latched => rfl

theorem State.rearmBody_eq (profiled : (s.session i).admin = .primed ∨ (s.session i).admin = .streaming) :
    s.rearmBody (some i.val) = if (s.session i).follows then refuseWith s .tethered else (s.rearm i, Answer.done false) :=
  State.sessionNote_admitted (index := id) rfl (admission_profiled.mpr profiled) _

end

/-- Settles O37: a follower is refused, OFF stays, and the supervised states are rearmed. -/
theorem rearmRestoresWatching : Obligations.RearmRestoresWatching := by
  intro s b i p hears profiled profile
  refine ⟨fun l follows => ?_, fun free => ?_⟩
  · have tethered : s.rearmBody (some i.val) = refuseWith s .tethered := by
      rw [State.rearmBody_eq profiled, if_pos ((Session.follows_eq_true_iff _).mpr ⟨l, follows⟩)]
    exact hears.refuses (c := .rearm (some i.val)) rfl tethered
  have rearmed : s.rearmBody (some i.val) = (s.rearm i, Answer.done false) := by
    rw [State.rearmBody_eq profiled, (Session.follows_eq_false_iff _).mpr free]
    rfl
  have done := hears.doesAtGate (c := .rearm (some i.val)) rfl rearmed (s.rearm_shares i).gate rfl
  refine ⟨fun off => ?_, fun on => ?_⟩
  · rw [State.rearm_of_off off] at done
    exact done
  · rw [State.rearm_of_supervised on free profile] at done
    exact done

/-! The flow table (R164, R165). -/

section
variable {s : State} {i : SessionIx} {n : FlowNote}

theorem State.flowByKey_isSome_iff (s : State) (k : FlowKey) : (s.flowByKey k).isSome = true ↔ ∃ e ∈ s.flows, e.key = k := by
  simp [State.flowByKey]

theorem State.flowBindBody_of_fault {code : ReplyCode} (named : n.session = i.val) (opened : (s.session i).admin ≠ .vacant)
    (fault : s.bindFault i n.key = some code) : s.flowBindBody (some n) = refuseWith s code := by
  rw [State.flowBindBody, State.sessionNote_admitted named (admission_anySession.mpr opened), fault]

theorem State.flowBindBody_of_none (named : n.session = i.val) (opened : (s.session i).admin ≠ .vacant)
    (passes : s.bindFault i n.key = none) : s.flowBindBody (some n) = (s.addFlow i n.key, Answer.done false) := by
  rw [State.flowBindBody, State.sessionNote_admitted named (admission_anySession.mpr opened), passes]

theorem State.flowUnbindBody_eq (named : n.session = i.val) (opened : (s.session i).admin ≠ .vacant) :
    s.flowUnbindBody (some n) = if (s.flowByKey n.key).any fun e => decide (e.session = i) then
      (s.dropFlow n.key, Answer.done false) else refuseWith s .noSuchFlow :=
  State.sessionNote_admitted named (admission_anySession.mpr opened) _

/-- An idle key loses its one entry, and FLOW_EXPIRED is raised on its session (R165). -/
theorem State.removeIdle_of_idle {e : FlowEntry} (keys : (s.flows.map FlowEntry.key).Nodup) (he : e ∈ s.flows)
    (idle : e.isIdle s.time s.setup.idleLimit = true) : s.removeIdle (fun g => decide (g.key = e.key)) =
      State.raiseOn { s with flows := s.flows.filter fun g => decide (g.key ≠ e.key) } e.session .flowExpired := by
  have same : ∀ g ∈ s.flows, g.key = e.key → g = e := fun g hg => List.inj_on_of_nodup_map keys hg he
  have expired : s.flows.filter (fun g => decide (g.key = e.key) && g.isIdle s.time s.setup.idleLimit) = [e] := by
    have one : s.flows.filter (fun g => decide (g.key = e.key) && g.isIdle s.time s.setup.idleLimit) =
        s.flows.filter fun g => decide (g = e) := by
      refine List.filter_congr fun g hg => ?_
      by_cases key : g.key = e.key
      · rw [same g hg key]; simp [idle]
      · have other : g ≠ e := fun h => key (h ▸ rfl)
        simp [key, other]
    rw [one, List.filter_eq, List.count_eq_one_of_mem (List.Nodup.of_map _ keys) he]
    rfl
  have kept : s.flows.filter (fun g => !(decide (g.key = e.key) && g.isIdle s.time s.setup.idleLimit)) =
      s.flows.filter fun g => decide (g.key ≠ e.key) := by
    refine List.filter_congr fun g hg => ?_
    by_cases key : g.key = e.key
    · rw [same g hg key]; simp [idle]
    · simp [key]
  simp only [State.removeIdle, expired, kept, List.foldl_cons, List.foldl_nil]

theorem State.removeIdle_of_fresh {k : FlowKey} (fresh : ∀ e ∈ s.flows, e.key = k → e.isIdle s.time s.setup.idleLimit = false) :
    s.removeIdle (fun g => decide (g.key = k)) = s := by
  have none_idle : ∀ g ∈ s.flows, (decide (g.key = k) && g.isIdle s.time s.setup.idleLimit) = false := by
    intro g hg
    by_cases key : g.key = k
    · simp [fresh g hg key]
    · simp [key]
  have expired : s.flows.filter (fun g => decide (g.key = k) && g.isIdle s.time s.setup.idleLimit) = [] :=
    List.filter_eq_nil_iff.mpr fun g hg => by simp [none_idle g hg]
  have kept : s.flows.filter (fun g => !(decide (g.key = k) && g.isIdle s.time s.setup.idleLimit)) = s.flows :=
    List.filter_eq_self.mpr fun g hg => by simp [none_idle g hg]
  simp only [State.removeIdle, expired, kept, List.foldl_nil]

theorem exec_flowIdle (released : s.resetAsserted = false) (k : FlowKey) :
    exec (.flowIdle k) s = .next (settle s (s.removeIdle fun e => decide (e.key = k))) :=
  congrArg Host.Outcome.next (State.unlessReset_of_released released _)

end

/-- Settles O38: the checks of FLOW BIND in their order, FLOW UNBIND's one entry, and the idle entry's end. -/
theorem flowsAreBoundUnboundAndExpire : Obligations.FlowsAreBoundUnboundAndExpire := by
  refine ⟨fun s b n i hears named opened => ⟨fun bound => ?_, fun unbound => ⟨fun full => ?_, fun own => ⟨fun full => ?_,
    fun room => ?_⟩⟩, fun elsewhere => ?_, fun e he key session keys => ?_⟩, fun s k released keys =>
    ⟨fun e he key idle => ?_, fun fresh => ?_⟩⟩
  · have fault : s.bindFault i n.key = some .duplicateFlow := if_pos ((s.flowByKey_isSome_iff _).mpr bound)
    exact hears.refuses (c := .flowBind (some n)) rfl (State.flowBindBody_of_fault named opened fault)
  · have free : ¬ (s.flowByKey n.key).isSome = true := by simpa [s.flowByKey_isSome_iff] using unbound
    have fault : s.bindFault i n.key = some .flowLimit := (if_neg free).trans (if_pos full)
    exact hears.refuses (c := .flowBind (some n)) rfl (State.flowBindBody_of_fault named opened fault)
  · have free : ¬ (s.flowByKey n.key).isSome = true := by simpa [s.flowByKey_isSome_iff] using unbound
    have fault : s.bindFault i n.key = some .tableFull :=
      (if_neg free).trans ((if_neg (Nat.not_le.mpr own)).trans (if_pos full))
    exact hears.refuses (c := .flowBind (some n)) rfl (State.flowBindBody_of_fault named opened fault)
  · have free : ¬ (s.flowByKey n.key).isSome = true := by simpa [s.flowByKey_isSome_iff] using unbound
    have passes : s.bindFault i n.key = none :=
      (if_neg free).trans ((if_neg (Nat.not_le.mpr own)).trans (if_neg (Nat.not_le.mpr room)))
    exact hears.does (c := .flowBind (some n)) rfl (State.flowBindBody_of_none named opened passes) rfl rfl
  · have missing : ¬ ((s.flowByKey n.key).any fun e => decide (e.session = i)) = true := by
      rw [Option.any_eq_true]
      rintro ⟨e, found, own⟩
      have key : e.key = n.key := by simpa using List.find?_some found
      exact elsewhere e (List.mem_of_find?_eq_some found) key (of_decide_eq_true own)
    have refused : s.flowUnbindBody (some n) = refuseWith s .noSuchFlow := by
      rw [State.flowUnbindBody_eq named opened, if_neg missing]
    exact hears.refuses (c := .flowUnbind (some n)) rfl refused
  · have found : s.flowByKey n.key = some e := key ▸ State.flowByKey_of_mem keys he
    have dropped : s.flowUnbindBody (some n) = (s.dropFlow n.key, Answer.done false) := by
      rw [State.flowUnbindBody_eq named opened, found, if_pos (by simp [session])]
    exact hears.does (c := .flowUnbind (some n)) rfl dropped rfl rfl
  · subst key
    refine ⟨_, exec_flowIdle released e.key, ?_⟩
    rw [settle_apart, State.removeIdle_of_idle keys he (decide_eq_true idle)]
    rfl
  · rw [exec_flowIdle released, State.removeIdle_of_fresh fun e he key => decide_eq_false (Nat.not_le.mpr (fresh e he key)),
      settle_self]

end Sys2Proof.Machine

/-! SUPPORT. The timers (O46), the retry timer (O51) and ASK with its flush (O39). -/

namespace Sys2Proof.Machine

/-- Two changes of one record are one change. -/
theorem State.modSession_modSession (s : State) (i : SessionIx) (f g : Session → Session) :
    (s.modSession i f).modSession i g = s.modSession i fun x => g (f x) := by
  simp [State.modSession]

section
variable {s : State} {i : SessionIx} {k : SlotIx}

/-! A timer's command acts when its timer has been reached, and changes nothing otherwise. -/

theorem exec_emptyPoint (released : s.resetAsserted = false) : exec (.emptyPoint i) s = .next
    (if timerReached s.time (s.session i).buffer.emptyPoint then s.modSession i fun x => x.emptied s.time else s) :=
  congrArg Host.Outcome.next (State.unlessReset_of_released released _)

theorem exec_upHoldExpiry (released : s.resetAsserted = false) : exec (.upHoldExpiry i) s = .next
    (if timerReached s.time (s.session i).upHold then s.modSession i fun x => { x with upHold := none } else s) :=
  congrArg Host.Outcome.next (State.unlessReset_of_released released _)

theorem exec_spacingHoldExpiry (released : s.resetAsserted = false) : exec .spacingHoldExpiry s = .next
    (if timerReached s.time s.gate.spacingHold then State.examine { s with gate.spacingHold := none } else s) :=
  congrArg Host.Outcome.next (State.unlessReset_of_released released _)

theorem exec_drainTimerExpiry (released : s.resetAsserted = false) : exec (.drainTimerExpiry i) s = .next
    (if timerReached s.time (s.session i).drainTimer then (s.modSession i fun x => { x with drainTimer := none }).examine
     else s) :=
  congrArg Host.Outcome.next (State.unlessReset_of_released released _)

theorem exec_freshnessTimerExpiry (released : s.resetAsserted = false) : exec (.freshnessTimerExpiry i) s = .next
    (if timerReached s.time (s.session i).buffer.freshTimer then settle s (s.blindSession i) else s) :=
  congrArg Host.Outcome.next (State.unlessReset_of_released released _)

theorem exec_expiry_free (released : s.resetAsserted = false) (free : s.slot k = none) : exec (.expiry k) s = .next s := by
  simp only [exec, execExpiry, State.unlessReset_of_released released, free]

theorem exec_expiry_slot (released : s.resetAsserted = false) {x : Slot} (held : s.slot k = some x) : exec (.expiry k) s = .next
    (if reached s.time x.expiry then settle s (s.expireSlot k x) else s) := by
  simp only [exec, execExpiry, State.unlessReset_of_released released, held]

theorem exec_retryExpiry (released : s.resetAsserted = false) : exec (.retryExpiry i) s = .next
    (if (s.session i).draw.phase = .retryWait && timerReached s.time (s.session i).draw.retryTimer then settle s (s.retry i)
     else s) :=
  congrArg Host.Outcome.next (State.unlessReset_of_released released _)

/-- An expiry frees its slot, lists its tag, counts, raises EXPIRED and examines (R122). -/
theorem State.expireSlot_eq (s : State) (k : SlotIx) (x : Slot) : s.expireSlot k x =
    State.examine ((s.setSlot k none).modSession x.session fun y => { y with
      expiredTags := (if 4 ≤ y.expiredTags.length then y.expiredTags.drop 1 else y.expiredTags) ++ [x.tag]
      stats.expiries := y.stats.expiries + 1
      causes := y.causes ||| Cause.expired.bit }) := by
  simp only [State.expireSlot, State.raiseOn, State.modSession_modSession, listTag, List.drop_one]

end

/-- Settles O46: each timer's command reads its own timer. -/
theorem timersExpire : Obligations.TimersExpire := by
  refine ⟨fun s i released => ⟨fun d running due => ?_, fun d running due => ?_, fun d running due => ?_, fun d running due => ?_,
    fun d running due => ⟨fun fresh => ?_, fun recovering => ?_⟩, fun ahead => ?_, fun ahead => ?_, fun ahead => ?_,
    fun ahead => ?_, fun ahead => ?_⟩, fun s k released => ⟨exec_expiry_free released, fun x held => ⟨fun ahead => ?_, fun due => ?_⟩⟩⟩
  · rw [exec_emptyPoint released, if_pos (timerReached_eq_true running due)]; rfl
  · rw [exec_upHoldExpiry released, if_pos (timerReached_eq_true running due)]
  · rw [exec_spacingHoldExpiry released, if_pos (timerReached_eq_true running due)]
  · rw [exec_drainTimerExpiry released, if_pos (timerReached_eq_true running due)]
  · refine ⟨_, exec_freshnessTimerExpiry released, ?_⟩
    rw [if_pos (timerReached_eq_true running due), settle_apart]
    simp only [State.blindSession, fresh, State.raiseOn, State.modSession_modSession]
    rfl
  · rw [exec_freshnessTimerExpiry released, if_pos (timerReached_eq_true running due)]
    have blinded : s.blindSession i = s.modSession i Session.blinded := by simp only [State.blindSession, recovering]
    have silent : (s.modSession i Session.blinded).pendingSets = s.pendingSets := by
      refine congrArg (List.cons _) (List.map_congr_left fun j _ => ?_)
      rw [State.modSession_session]
      split <;> rfl
    rw [blinded, settle, if_pos silent.symm]
    rfl
  · rw [exec_emptyPoint released, timerReached_eq_false ahead]; rfl
  · rw [exec_upHoldExpiry released, timerReached_eq_false ahead]; rfl
  · rw [exec_spacingHoldExpiry released, timerReached_eq_false ahead]; rfl
  · rw [exec_drainTimerExpiry released, timerReached_eq_false ahead]; rfl
  · rw [exec_freshnessTimerExpiry released, timerReached_eq_false ahead]; rfl
  · rw [exec_expiry_slot released held, ahead]; rfl
  · refine ⟨_, exec_expiry_slot released held, ?_⟩
    rw [if_pos due, settle_apart, State.expireSlot_eq]

/-! The retry timer (R140). -/

theorem Session.retried_eq {x : Session} {p : Profile} (profile : x.profile = some p) (watched : p.drawKind ≠ .unwatched)
    (now : Time) : x.retried now = { x with
      draw := { x.draw with
        retryTimer := none, retriesUsed := x.draw.retriesUsed + 1, cap := none, phase := .watching
        entryTime := some now, settled := false
        openMark := if p.drawKind = .start then false else x.draw.openMark
        stageClock := if p.drawKind = .start then 0 else x.draw.stageClock
        overTime := if p.drawKind = .start then 0 else x.draw.overTime } } := by
  unfold Session.retried
  rw [Session.drawKind_of_profile profile]
  cases kind : p.drawKind with
  | unwatched => exact absurd kind watched
  | start => rfl
  | live => rfl

/-- Settles O51: the retry record, raised and recomputed, or nothing. -/
theorem retryRestoresWatching : Obligations.RetryRestoresWatching := by
  intro s i released
  refine ⟨fun idle => ?_, fun d p phase running due profile watched => ⟨_, exec_retryExpiry released, ?_⟩⟩
  · rw [exec_retryExpiry released, if_neg]
    rw [Bool.and_eq_true, decide_eq_true_eq]
    rintro ⟨phase, due⟩
    rcases idle with other | ahead
    · exact other phase
    · rw [timerReached_eq_false ahead] at due; cases due
  · rw [phase, timerReached_eq_true running due]
    simp only [decide_true, Bool.and_self, if_true]
    rw [settle_apart, State.retry, State.raiseOn, State.modSession_modSession]
    exact congrArg (fun u : State => u.recompute.apartFromReports)
      (State.modSession_congr (by rw [Session.retried_eq profile watched]))

/-! ASK (R109, R110). -/

section
variable {s t : State} {i c : SessionIx}

/-- The holder of a session's miss run is the leader it follows, or the session itself. -/
theorem State.missHolder_eq_iff : s.missHolder i = c ↔
    (s.session i).role = .follower c ∨ (c = i ∧ ∀ l, (s.session i).role ≠ .follower l) := by
  unfold State.missHolder
  cases (s.session i).role with
  | independent => simp [eq_comm]
  | leader fs => simp [eq_comm]
  | follower l => simp

/-- The contender a session belongs to, by its role and the admin state of who holds it (R74, R129). -/
theorem State.contender_eq_some_iff : s.contender i = some c ↔ s.IsContenderOf i c := by
  unfold State.contender State.IsContenderOf
  rw [Option.ite_none_right_eq_some, Option.some_inj, ← State.missHolder_eq_iff, and_comm]
  refine and_congr_right ?_
  rintro rfl
  simp [Session.isStreaming]

theorem State.missHolder_of_bearing (h : SameBearing s t) (i : SessionIx) : t.missHolder i = s.missHolder i := by
  unfold State.missHolder
  rw [h.role]

/-- Contenders are read off admin states and roles. -/
theorem State.contender_of_bearing (h : SameBearing s t) (i : SessionIx) : t.contender i = s.contender i := by
  have streams : (t.session (s.missHolder i)).isStreaming = (s.session (s.missHolder i)).isStreaming := by
    unfold Session.isStreaming
    rw [h.admin]
  rw [State.contender, State.contender, State.missHolder_of_bearing h, streams]

/-- A flush empties the buffer with no empty point left (R57, R59). -/
theorem Session.anchorAt_zero (x : Session) (now : Time) : x.anchorAt now 0 =
    { x with buffer := { x.buffer with anchor := 0, anchorTime := now, emptyPoint := none } } := by
  have none' : Session.emptyPointOf { x with buffer.anchor := 0, buffer.anchorTime := now } = none := by
    unfold Session.emptyPointOf
    cases x.buffer.playback <;> simp
  simp only [Session.anchorAt, Session.withEmptyPoint, none']

theorem State.tellFlush_of_none (alone : s.contender i = none) : s.tellFlush i = s := by
  simp only [State.tellFlush, alone]

theorem State.tellFlush_of_some {p : Profile} (belongs : s.contender i = some c) (profile : (s.session c).profile = some p) :
    s.tellFlush i = if p.drawKind = .start then s.modSession c fun x => { x with draw := { x.draw with openMark := true } }
                    else s := by
  simp only [State.tellFlush, belongs, Session.drawKind_of_profile profile]

end

/-- Settles O39: the flush, the ask at the end of the queue, and the examination. -/
theorem askJoinsTheQueue : Obligations.AskJoinsTheQueue := by
  rintro s b n i emptied released flushed hears named streaming hemptied rfl unflushed alone belongs profiled
  have anchored : (s.modSession i fun x => x.anchorAt s.time 0) = emptied := by
    rw [hemptied]
    exact State.modSession_congr (Session.anchorAt_zero _ _)
  have records : (emptied.releaseSlots i).sessions = emptied.sessions := emptied.releaseSlots_sessions i
  have emptying : SameBearing s emptied := hemptied ▸ SameBearing.modSession rfl
  have bearing : SameBearing s (emptied.releaseSlots i) := emptying.trans (Stands.of_sessions records).bearing
  have flush : (if n.flush then ((s.modSession i fun x => x.anchorAt s.time 0).releaseSlots i).tellFlush i else s) = flushed := by
    cases hflush : n.flush with
    | false => exact (unflushed hflush).symm
    | true =>
      rw [if_pos rfl, anchored]
      cases found : s.contender i with
      | none =>
        have none' : ∀ c, ¬ s.IsContenderOf i c := fun c hc => by
          rw [← State.contender_eq_some_iff, found] at hc; cases hc
        rw [alone hflush none', State.tellFlush_of_none (State.contender_of_bearing bearing i ▸ found)]
      | some c =>
        have hc := State.contender_eq_some_iff.mp found
        obtain ⟨p, hp⟩ := Option.ne_none_iff_exists'.mp (profiled hflush c hc)
        have kept : ((emptied.releaseSlots i).session c).profile = some p := by
          rw [State.session, records, hemptied, ← State.session, State.modSession_session]
          split
          · exact hp
          · exact hp
        rw [belongs c p hflush hc hp, State.tellFlush_of_some (State.contender_of_bearing bearing i ▸ found) kept]
  have body : s.askBody (some n) = if (s.askOf i).isSome then refuseWith s .askPending
      else (s.queueAsk i n, Answer.done (decide (n.clampedDuration ≠ n.duration))) :=
    State.sessionNote_admitted named (admission_streamingOnly.mpr streaming) _
  have asked : (s.askOf i).isSome = true ↔ ∃ a ∈ s.gate.askQueue, a.session = i := by simp [State.askOf]
  have slots : ∀ k, emptied.slot k = s.slot k := by rw [hemptied]; exact fun _ => rfl
  refine ⟨records, fun k => ?_, fun pending => ?_, fun first => ?_⟩
  · simp only [State.releaseSlots_slot, slots]
  · exact hears.refuses (c := .askFetch (some n)) rfl (body.trans (if_pos (asked.mpr pending)))
  · have fresh : ¬ (s.askOf i).isSome = true := by simpa [asked] using first
    have done := hears.doesAtGate (c := .askFetch (some n)) rfl (body.trans (if_neg fresh)) (s.queueAsk_gateWork i n) rfl
    have clamped : decide (n.clampedDuration ≠ n.duration) = decide (n.duration < 250 ∨ 20000 < n.duration) := by
      rw [decide_eq_decide, AskNote.clampedDuration, clampTo]
      omega
    rw [clamped, State.queueAsk, flush] at done
    exact done

end Sys2Proof.Machine

/-! SUPPORT. DONE COMPLETE (O42): the credit, the sample, and what the draw monitor keeps of a completed fetch. -/

namespace Sys2Proof.Machine

/-! A re-anchor, in the words of R56 and R57. -/

section
variable {x : Session} {e : Effective} {now : Time}

theorem Session.speed_of_eff (eff : x.eff = some e) : x.speed = e.speed := by simp [Session.speed, eff]

theorem Session.withEmptyPoint_eq (x : Session) : x.withEmptyPoint = { x with buffer := { x.buffer with
    emptyPoint := if x.buffer.playback = .playing ∧ x.buffer.anchor ≠ 0 then
      some (later x.buffer.anchorTime (ceilDiv (x.buffer.anchor * 8) x.speed)) else none } } := by
  unfold Session.withEmptyPoint Session.emptyPointOf
  cases playback : x.buffer.playback with
  | playing => by_cases empty : x.buffer.anchor = 0 <;> simp [empty]
  | stopped => simp
  | stalled => simp

theorem Session.anchorAt_eq (eff : x.eff = some e) (v : Nat) :
    x.anchorAt now v = { x with buffer := x.buffer.anchored v e.speed now } := by
  rw [← Session.speed_of_eff eff]
  exact Session.withEmptyPoint_eq _

end

/-! Changes of records that touch different things commute. -/

theorem State.modSession_comm (s : State) (i m : SessionIx) {f g : Session → Session} (commute : ∀ x, f (g x) = g (f x)) :
    (s.modSession m g).modSession i f = (s.modSession i f).modSession m g := by
  by_cases same : m = i
  · subst same
    simp only [State.modSession_modSession, commute]
  · have records : ((s.modSession m g).modSession i f).sessions = ((s.modSession i f).modSession m g).sessions :=
      State.sessions_ext fun j => by
        simp only [State.modSession_session]
        split
        · next h => subst h; simp [Ne.symm same]
        · rfl
    exact congrArg (fun v => { s with sessions := v }) records

/-! The completion of a fetch. -/

theorem Slot.sample_eq {x : Slot} {sample : Option Nat} (granted : x.phase = .granted → sample = none)
    (received : ∀ first last, x.phase = .receiving first last →
      sample = if x.bytes < 24000 ∨ elapsed last first < 20 then none
               else some (min 1000000 (x.bytes * 8 / elapsed last first))) : x.sample = sample := by
  unfold Slot.sample
  cases phase : x.phase with
  | granted => exact (granted phase).symm
  | receiving first last =>
    rw [received first last phase]
    simp only [Bool.or_eq_true, decide_eq_true_eq, rateMax]

/-- What the completion of a fetch does to the session that held the slot (R58, R121). -/
def Session.completed (now : Time) (duration : Nat) (short : Bool) (x : Session) : Session :=
  let y := x.credit now duration
  { y with stats := { y.stats with
      segmentsCompleted := y.stats.segmentsCompleted + 1
      shortFetches := if short then y.stats.shortFetches + 1 else y.stats.shortFetches } }

/-- What the completion does to the holder of the estimates and of the miss run (R37, R40, R41, R121). -/
def Session.sampled (sample : Option Nat) (missed : Bool) (x : Session) : Session :=
  { x with
    estimates := sample.elim x.estimates fun v => some (absorb x.estimates v)
    missRun := if missed then x.missRun else 0 }

/-- The completion as one change of each of the two records, and the draw monitor's. -/
theorem State.completeFetch_eq (s : State) (x : Slot) : s.completeFetch x =
    ((s.modSession x.session (Session.completed s.time x.duration x.sample.isNone)).modSession (s.missHolder x.session)
      (Session.sampled x.sample x.missed)).tellCompletion x.session x.overLow := by
  unfold State.completeFetch
  extract_lets i credited sampled counted cleared
  refine congrArg (fun u : State => u.tellCompletion i x.overLow) ?_
  have holder : credited.missHolder i = s.missHolder i :=
    State.missHolder_of_bearing (SameBearing.modSession rfl) i
  have missRun : cleared = counted.modSession (s.missHolder i) fun y => { y with missRun := if x.missed then y.missRun else 0 } := by
    unfold cleared
    cases x.missed with
    | true => exact (State.modSession_eq_self _ _ _ rfl).symm
    | false => rfl
  have completed : counted = (s.modSession i (Session.completed s.time x.duration x.sample.isNone)).modSession (s.missHolder i)
      fun y => { y with estimates := x.sample.elim y.estimates fun v => some (absorb y.estimates v) } := by
    unfold counted sampled State.takeSample
    cases x.sample with
    | none =>
      rw [State.modSession_eq_self _ (s.missHolder i) _ rfl]
      simp only [credited, State.modSession_modSession]
      rfl
    | some v =>
      rw [holder]
      refine (State.modSession_comm credited i (s.missHolder i)
        (f := fun y => { y with stats.segmentsCompleted := y.stats.segmentsCompleted + 1 })
        (g := fun y => { y with estimates := some (absorb y.estimates v) }) fun _ => rfl).trans ?_
      simp only [credited, State.modSession_modSession]
      rfl
  rw [missRun, completed, State.modSession_modSession]
  rfl

/-- The draw state after a completion, while its contender is STREAMING (R137, R141). -/
theorem Session.draw_of_completion {y : Session} {p : Profile} (profile : y.profile = some p) (overLow : Bool) :
    (y.liveCompletion overLow).quietCompletion = { y with draw := { y.draw with
      overTime := if p.drawKind = .live ∧ y.draw.phase = .watching ∧ overLow = false then 0 else y.draw.overTime
      penaltyMark := false
      quietRun := if y.draw.penaltyMark = false ∧ decide (p.drawKind ≠ .unwatched ∧ y.draw.phase = .watching) = true then
          (if 8 ≤ y.draw.quietRun + 1 then 0 else y.draw.quietRun + 1) else y.draw.quietRun
      retriesUsed := if y.draw.penaltyMark = false ∧ decide (p.drawKind ≠ .unwatched ∧ y.draw.phase = .watching) = true ∧
          8 ≤ y.draw.quietRun + 1 then 0 else y.draw.retriesUsed } } := by
  have live : y.liveCompletion overLow = { y with draw := { y.draw with
      overTime := if p.drawKind = .live ∧ y.draw.phase = .watching ∧ overLow = false then 0 else y.draw.overTime } } := by
    simp only [Session.liveCompletion, Session.drawKind_of_profile profile, Bool.and_eq_true, decide_eq_true_eq,
      Bool.not_eq_true', and_assoc]
    split <;> rfl
  rw [live]
  generalize (if p.drawKind = .live ∧ y.draw.phase = .watching ∧ overLow = false then 0 else y.draw.overTime) = overTime
  have kind : ({ y with draw := { y.draw with overTime := overTime } } : Session).drawKind = p.drawKind :=
    Session.drawKind_of_profile profile
  unfold Session.quietCompletion
  rw [kind]
  cases mark : y.draw.penaltyMark with
  | true => simp
  | false =>
    by_cases watched : y.draw.phase = .watching ∧ p.drawKind ≠ .unwatched
    · by_cases long : 8 ≤ y.draw.quietRun + 1
      · simp [watched.1, watched.2, long, mark]
      · simp [watched.1, watched.2, long, mark]
    · have unwatched : ¬ (p.drawKind ≠ .unwatched ∧ y.draw.phase = .watching) := fun h => watched ⟨h.2, h.1⟩
      simp only [Bool.and_eq_true, decide_eq_true_eq, watched, unwatched, mark, if_false, Bool.false_eq_true, false_and, and_false]

theorem Session.completed_eq {x : Session} {e : Effective} (eff : x.eff = some e) (now : Time) (duration : Nat)
    (sample : Option Nat) : x.completed now duration sample.isNone = { x with
      buffer := x.buffer.anchored (min 120000 (x.level now + duration)) e.speed now
      stats := { x.stats with
        segmentsCompleted := x.stats.segmentsCompleted + 1
        shortFetches := if sample = none then x.stats.shortFetches + 1 else x.stats.shortFetches } } := by
  have short : (sample.isNone = true) = (sample = none) := by rw [Option.isNone_iff_eq_none]
  simp only [Session.completed, Session.credit, Session.anchorAt_eq eff, short, levelMax]

/-- The draw monitor moves the holder's record while that is STREAMING. -/
theorem State.tellCompletion_eq {s : State} {i m : SessionIx} (holder : s.missHolder i = m) (overLow : Bool) :
    s.tellCompletion i overLow = s.modSession m fun y =>
      if (s.session m).admin = .streaming then (y.liveCompletion overLow).quietCompletion else y := by
  unfold State.tellCompletion State.contender
  rw [holder]
  by_cases streaming : (s.session m).admin = .streaming
  · simp only [Session.isStreaming, streaming, decide_true, if_true]
  · simp only [Session.isStreaming, streaming, decide_false, Bool.false_eq_true, if_false]
    exact (State.modSession_eq_self _ _ _ rfl).symm

/-- Two changes of records are known by what they make of those records. -/
theorem State.modSession_congr₂ {s : State} {i m : SessionIx} {f f' g g' : Session → Session} (first : f (s.session i) = f' (s.session i))
    (second : g ((s.modSession i f').session m) = g' ((s.modSession i f').session m)) :
    (s.modSession i f).modSession m g = (s.modSession i f').modSession m g' := by
  rw [State.modSession_congr first, State.modSession_congr second]

/-- What the completion makes of the holder's record, from the estimates and the draw phase it had (R37 to R41, R137, R141). -/
theorem Session.holder_completed {y : Session} {p : Profile} {sample : Option Nat} {old est : Option Estimates} {phase : DrawPhase}
    {missed overLow : Bool} {on : Prop} [Decidable on] (profile : y.profile = some p) (estimates : y.estimates = old)
    (draw : y.draw.phase = phase)
    (absorbed : est = sample.elim old fun v => some (absorb old v)) :
    (if on then ((Session.sampled sample missed y).liveCompletion overLow).quietCompletion else Session.sampled sample missed y) =
      { y with
          estimates := est
          missRun := if missed then y.missRun else 0
          draw :=
            if on then { y.draw with
              overTime := if p.drawKind = .live ∧ y.draw.phase = .watching ∧ overLow = false then 0 else y.draw.overTime
              penaltyMark := false
              quietRun := if y.draw.penaltyMark = false ∧ decide (p.drawKind ≠ .unwatched ∧ phase = .watching) = true then
                  (if 8 ≤ y.draw.quietRun + 1 then 0 else y.draw.quietRun + 1) else y.draw.quietRun
              retriesUsed := if y.draw.penaltyMark = false ∧ decide (p.drawKind ≠ .unwatched ∧ phase = .watching) = true ∧
                  8 ≤ y.draw.quietRun + 1 then 0 else y.draw.retriesUsed }
            else y.draw } := by
  subst estimates draw
  have sampled : Session.sampled sample missed y = { y with estimates := est, missRun := if missed then y.missRun else 0 } := by
    rw [absorbed]
    rfl
  rw [sampled]
  by_cases streaming : on
  · simp only [if_pos streaming, Session.draw_of_completion (y := { y with estimates := est, missRun := if missed then y.missRun else 0 }) profile]
  · simp only [if_neg streaming]

/-- Settles O42: the completion's parts, and the examination behind them. -/
theorem doneCompletesTheFetch : Obligations.DoneCompletesTheFetch := by
  rintro s b ⟨_, tag, _⟩ i m k x e p sample est level watched hears named outcome streaming holds eff profile slot owns htag
    unique rfl granted received hest rfl
  obtain rfl : _ = i.val := named
  obtain rfl : _ = FetchOutcome.complete := outcome
  obtain rfl : x.session = i := owns
  have holder : s.missHolder x.session = m := State.missHolder_eq_iff.mpr (holds.imp And.left id)
  have hsample : x.sample = sample := Slot.sample_eq granted received
  have found : s.slotByTag x.session tag = some (k, x) := State.slotByTag_of_unique slot rfl htag unique
  have done : NoteDoes _ s b (State.examine ((s.setSlot k none).completeFetch x)) 19 .accepted none :=
    hears.doesAtGate (c := .doneFetch (some { session := x.session.val, tag := tag, outcome := .complete })) rfl
      (State.doneBody_of_slot streaming found .complete) (s.finishSlot_gateWork k x .complete) rfl
  refine Eq.mp (congrArg (fun u => NoteDoes _ s b (State.examine u) 19 .accepted none) ?_) done
  have freedHolder : (s.setSlot k none).missHolder x.session = m := holder
  rw [State.completeFetch_eq, freedHolder, hsample]
  have movedHolder : (((s.setSlot k none).modSession x.session (Session.completed s.time x.duration sample.isNone)).modSession m
      (Session.sampled sample x.missed)).missHolder x.session = m :=
    (State.missHolder_of_bearing ((SameBearing.modSession rfl).trans (SameBearing.modSession rfl)) _).trans freedHolder
  have movedAdmin : ((((s.setSlot k none).modSession x.session (Session.completed s.time x.duration sample.isNone)).modSession m
      (Session.sampled sample x.missed)).session m).admin = (s.session m).admin :=
    ((SameBearing.modSession rfl).trans (SameBearing.modSession rfl)).admin m
  refine (State.tellCompletion_eq movedHolder x.overLow).trans ?_
  rw [State.modSession_modSession, movedAdmin]
  refine State.modSession_congr₂ (Session.completed_eq eff s.time x.duration sample) ?_
  have absorbed : est = sample.elim (s.session m).estimates fun v => some (absorb (s.session m).estimates v) := by
    rw [hest]
    cases sample with
    | none => rfl
    | some v => cases (s.session m).estimates <;> rfl
  refine Session.holder_completed ?_ ?_ ?_ absorbed
  all_goals
    rw [State.modSession_session]
    split
  exacts [profile, profile, rfl, rfl, rfl, rfl]

end Sys2Proof.Machine

/-! SUPPORT. PLAY (O44): the buffer model and the supervision behind its steps, the hints, and what follows from them. -/

namespace Sys2Proof.Machine

section
variable {x : Session} {p : Profile} {g h : Effective} {now : Time} {n : PlayNote}

/-! The four steps of a PLAY on one record (R62 to R70, R14). -/

/-- A change of playback state re-anchors, counts a stall on entry into STALLED and stops the freshness timer on entry into
STOPPED (R62, R70). -/
theorem Session.setPlayback_eq (eff : x.eff = some g) (q : Playback) (changes : x.buffer.playback ≠ q) : x.setPlayback now q =
    { x with
      buffer := BufferModel.anchored { x.buffer with
        playback := q, freshTimer := if q = .stopped then none else x.buffer.freshTimer } (x.level now) g.speed now
      stats := { x.stats with stalls := if q = .stalled then x.stats.stalls + 1 else x.stats.stalls } } := by
  have speed : ∀ b : BufferModel, Session.speed { x with buffer := b } = g.speed := fun b => Session.speed_of_eff eff
  unfold Session.setPlayback Session.reAnchor Session.anchorAt
  rw [if_neg changes]
  cases q <;> simp [Session.withEmptyPoint_eq, BufferModel.anchored, speed]

/-- A level is the anchor where it is read at the anchor's time. -/
theorem Session.level_of_anchored (anchored : x.buffer.anchorTime = now) : x.level now = x.buffer.anchor := by
  unfold Session.level
  cases x.buffer.playback <;> simp [anchored, elapsed]

/-- The level reads the anchor, its time, the playback state and the speed. -/
theorem Session.level_congr {y : Session} (playback : y.buffer.playback = x.buffer.playback) (anchor : y.buffer.anchor = x.buffer.anchor)
    (time : y.buffer.anchorTime = x.buffer.anchorTime) (eff : y.eff = x.eff) : y.level now = x.level now := by
  simp only [Session.level, playback, anchor, time, Session.speed, eff]

/-- The level a PLAY leaves: the one it reports, or the modelled one (R60). -/
def Session.levelBy (x : Session) (now : Time) (n : PlayNote) : Nat := n.level.elim (x.level now) (min 120000)

/-- A PLAY that reports neither a new state nor a level leaves the buffer model where it was (R62, R63). -/
def Session.unplaced (x : Session) (n : PlayNote) : Bool := decide (n.state = x.buffer.playback) && n.level.isNone

theorem Session.unplaced_iff : x.unplaced n = true ↔ n.state = x.buffer.playback ∧ n.level = none := by
  simp [Session.unplaced]

/-- The buffer model after the first two steps of a PLAY. -/
def Session.placedBuffer (x : Session) (speed : Nat) (now : Time) (n : PlayNote) : BufferModel :=
  if x.unplaced n then x.buffer
  else BufferModel.anchored { x.buffer with
    playback := n.state
    freshTimer := if n.state = .stopped ∧ x.buffer.playback ≠ .stopped then none else x.buffer.freshTimer }
      (x.levelBy now n) speed now

/-- The first two steps of a PLAY: its state, then its level (R63). -/
def Session.placed (x : Session) (now : Time) (n : PlayNote) : Session :=
  match n.level with
  | none => x.setPlayback now n.state
  | some v => (x.setPlayback now n.state).anchorAt now (min levelMax v)

theorem Session.placed_eq (eff : x.eff = some g) : x.placed now n = { x with
    buffer := x.placedBuffer g.speed now n
    stats := { x.stats with stalls := if n.state = .stalled ∧ x.buffer.playback ≠ .stalled then x.stats.stalls + 1
                                      else x.stats.stalls } } := by
  unfold Session.placed Session.placedBuffer
  by_cases same : x.buffer.playback = n.state
  · have stands : x.setPlayback now n.state = x := if_pos same
    have stalls : ¬ (n.state = .stalled ∧ x.buffer.playback ≠ .stalled) := by rw [same]; tauto
    have timer : ¬ (n.state = .stopped ∧ x.buffer.playback ≠ .stopped) := by rw [same]; tauto
    rw [stands, if_neg stalls, if_neg timer]
    cases level : n.level with
    | none => rw [if_pos (Session.unplaced_iff.mpr ⟨same.symm, level⟩)]
    | some v =>
      have placed : ¬ x.unplaced n = true := by simp [Session.unplaced_iff, level]
      rw [if_neg placed, Session.levelBy, level, ← same]
      exact Session.anchorAt_eq eff _
  · have changed := Session.setPlayback_eq (now := now) eff n.state same
    have stalls : (n.state = .stalled ∧ x.buffer.playback ≠ .stalled) ↔ n.state = .stalled :=
      ⟨And.left, fun h => ⟨h, fun k => same (k.trans h.symm)⟩⟩
    have timer : (n.state = .stopped ∧ x.buffer.playback ≠ .stopped) ↔ n.state = .stopped :=
      ⟨And.left, fun h => ⟨h, fun k => same (k.trans h.symm)⟩⟩
    have placed : ¬ x.unplaced n = true := by simp [Session.unplaced_iff, Ne.symm same]
    rw [changed, if_neg placed, Session.levelBy]
    simp only [stalls, timer]
    cases n.level with
    | none => rfl
    | some v =>
      show Session.anchorAt _ now (min levelMax v) = _
      refine (Session.anchorAt_eq (e := g) ?_ _).trans rfl
      exact eff

/-- The supervision after a report, by the freshness limit and the playback state (R68, R70). -/
def BufferModel.reportedBy (b : BufferModel) (limit : Option Nat) (now : Time) : BufferModel :=
  { b with
    freshness := limit.elim .fresh fun _ => if b.playback = .stopped then b.freshness else b.freshness.reported
    freshTimer := limit.elim none fun f => if b.playback = .stopped then b.freshTimer else some (later now f) }

theorem Session.report_eq {x : Session} (profile : x.profile = some p) :
    x.report now = { x with buffer := x.buffer.reportedBy p.freshnessLimit now } := by
  have limit : x.freshnessLimit = p.freshnessLimit := by simp [Session.freshnessLimit, profile]
  unfold Session.report BufferModel.reportedBy
  rw [limit]
  cases p.freshnessLimit with
  | none => rfl
  | some f =>
    simp only [Option.elim]
    split
    · next stopped => simp only [if_pos stopped]
    · next playing => simp only [if_neg (show ¬ x.buffer.playback = .stopped by simp [playing])]
    · next stalled => simp only [if_neg (show ¬ x.buffer.playback = .stopped by simp [stalled])]

/-- A change of the effective values re-anchors for a new speed (R61). -/
theorem Session.setEffective_eq {x : Session} (eff : x.eff = some g) : x.setEffective now h = { x with
    buffer := if h.speed = g.speed then x.buffer else x.buffer.anchored (x.level now) h.speed now
    eff := some h } := by
  unfold Session.setEffective
  simp only [eff, Option.map_some, Option.some_inj, eq_comm (a := g.speed)]
  split
  · rfl
  · unfold Session.reAnchor Session.anchorAt
    simp only [Session.withEmptyPoint_eq]
    rfl

theorem Session.played_steps (profile : ((x.placed now n).report now).profile = some p)
    (eff : ((x.placed now n).report now).eff = some g) :
    x.played now n = ((x.placed now n).report now).setEffective now (g.hinted p n) := by
  cases level : n.level with
  | none =>
    have placed : x.placed now n = x.setPlayback now n.state := by simp only [Session.placed, level]
    rw [placed] at profile eff ⊢
    simp only [Session.played, level, profile, eff]
  | some v =>
    have placed : x.placed now n = (x.setPlayback now n.state).anchorAt now (min levelMax v) := by
      simp only [Session.placed, level]
    rw [placed] at profile eff ⊢
    simp only [Session.played, level, profile, eff]

/-- The buffer model after a PLAY that leaves a speed. -/
def Session.playedBuffer (x : Session) (p : Profile) (old speed : Nat) (now : Time) (n : PlayNote) : BufferModel :=
  if speed = old then (x.placedBuffer old now n).reportedBy p.freshnessLimit now
  else ((x.placedBuffer old now n).reportedBy p.freshnessLimit now).anchored (x.levelBy now n) speed now

/-- The record after a PLAY. -/
theorem Session.played_eq (profile : x.profile = some p) (eff : x.eff = some g) :
    x.played now n = { x with
      buffer := x.playedBuffer p g.speed (g.hinted p n).speed now n
      eff := some (g.hinted p n)
      stats := { x.stats with stalls := if n.state = .stalled ∧ x.buffer.playback ≠ .stalled then x.stats.stalls + 1
                                        else x.stats.stalls } } := by
  have profiled : ((x.placed now n).report now).profile = some p ∧ ((x.placed now n).report now).eff = some g := by
    rw [Session.placed_eq eff, Session.report_eq (p := p) (by exact profile)]
    exact ⟨profile, eff⟩
  rw [Session.played_steps profiled.1 profiled.2, Session.placed_eq eff, Session.report_eq (p := p) (by exact profile),
    Session.setEffective_eq (g := g) (by exact eff)]
  have level : Session.level { x with
      buffer := (x.placedBuffer g.speed now n).reportedBy p.freshnessLimit now
      stats := { x.stats with stalls := if n.state = .stalled ∧ x.buffer.playback ≠ .stalled then x.stats.stalls + 1
                                        else x.stats.stalls } } now = x.levelBy now n := by
    by_cases unplaced : x.unplaced n = true
    · have still : x.placedBuffer g.speed now n = x.buffer := if_pos unplaced
      rw [still, Session.levelBy, (Session.unplaced_iff.mp unplaced).2]
      exact Session.level_congr rfl rfl rfl rfl
    · rw [Session.placedBuffer, if_neg unplaced]
      exact Session.level_of_anchored rfl
  rw [level]
  rfl

theorem Freshness.reported_eq (f : Freshness) : f.reported = if f = .blind then .recovering else .fresh := by
  cases f <;> rfl

theorem BufferModel.eq_of_fields {a b : BufferModel} (playback : a.playback = b.playback)
    (anchors : (a.anchor, a.anchorTime, a.emptyPoint) = (b.anchor, b.anchorTime, b.emptyPoint))
    (freshness : a.freshness = b.freshness) (freshTimer : a.freshTimer = b.freshTimer) : a = b := by
  cases a
  cases b
  simp_all

theorem Session.placedBuffer_fields (x : Session) (speed : Nat) (now : Time) (n : PlayNote) :
    (x.placedBuffer speed now n).playback = n.state ∧ (x.placedBuffer speed now n).freshness = x.buffer.freshness ∧
      (n.state = .stopped → (x.placedBuffer speed now n).freshTimer =
        if x.buffer.playback = .stopped then x.buffer.freshTimer else none) := by
  unfold Session.placedBuffer
  by_cases unplaced : x.unplaced n = true
  · obtain ⟨same, -⟩ := Session.unplaced_iff.mp unplaced
    rw [if_pos unplaced]
    exact ⟨same.symm, rfl, fun stops => (if_pos (same.symm.trans stops)).symm⟩
  · rw [if_neg unplaced]
    refine ⟨rfl, rfl, fun stops => ?_⟩
    by_cases stood : x.buffer.playback = .stopped
    · simp [BufferModel.anchored, stood]
    · simp [BufferModel.anchored, stops, stood]

theorem Session.playedBuffer_fields (x : Session) (p : Profile) (old speed : Nat) (now : Time) (n : PlayNote) :
    (x.playedBuffer p old speed now n).playback = n.state ∧
      ((x.playedBuffer p old speed now n).anchor, (x.playedBuffer p old speed now n).anchorTime,
          (x.playedBuffer p old speed now n).emptyPoint) =
        (if x.unplaced n = true ∧ speed = old then (x.buffer.anchor, x.buffer.anchorTime, x.buffer.emptyPoint)
         else (x.levelBy now n, now, if n.state = .playing ∧ x.levelBy now n ≠ 0 then
           some (later now (ceilDiv (x.levelBy now n * 8) speed)) else none)) ∧
      ((x.playedBuffer p old speed now n).freshness = p.freshnessLimit.elim .fresh fun _ =>
        if n.state = .stopped then x.buffer.freshness else x.buffer.freshness.reported) ∧
      (x.playedBuffer p old speed now n).freshTimer = p.freshnessLimit.elim none fun f =>
        if n.state = .stopped then (if x.buffer.playback = .stopped then x.buffer.freshTimer else none)
        else some (later now f) := by
  obtain ⟨playback, freshness, freshTimer⟩ := x.placedBuffer_fields old now n
  have reported : ∀ b : BufferModel, b.playback = n.state → b.freshness = x.buffer.freshness →
      (b.reportedBy p.freshnessLimit now).freshness = p.freshnessLimit.elim .fresh fun _ =>
        if n.state = .stopped then x.buffer.freshness else x.buffer.freshness.reported := by
    rintro b hplayback hfreshness
    simp only [BufferModel.reportedBy, hplayback, hfreshness]
  have timer : ((x.placedBuffer old now n).reportedBy p.freshnessLimit now).freshTimer = p.freshnessLimit.elim none fun f =>
      if n.state = .stopped then (if x.buffer.playback = .stopped then x.buffer.freshTimer else none)
      else some (later now f) := by
    simp only [BufferModel.reportedBy, playback]
    by_cases stops : n.state = .stopped
    · simp only [if_pos stops, freshTimer stops]
    · simp only [if_neg stops]
  have supervised := reported _ playback freshness
  unfold Session.playedBuffer
  by_cases kept : speed = old
  · rw [if_pos kept]
    refine ⟨playback, ?_, supervised, timer⟩
    by_cases unplaced : x.unplaced n = true
    · rw [if_pos ⟨unplaced, kept⟩, Session.placedBuffer, if_pos unplaced]
      rfl
    · rw [if_neg fun h => unplaced h.1, Session.placedBuffer, if_neg unplaced, kept]
      rfl
  · rw [if_neg kept, if_neg fun h => kept h.2]
    refine ⟨playback, ?_, supervised, timer⟩
    rw [← playback]
    rfl

/-- The buffer model after a PLAY, in the words of R56, R57, R60, R68 and R70. -/
theorem Session.playedBuffer_eq {buf : BufferModel} {speed : Nat} (playback : buf.playback = n.state)
    (still : n.state = x.buffer.playback ∧ n.level = none ∧ speed = g.speed →
      buf.anchor = x.buffer.anchor ∧ buf.anchorTime = x.buffer.anchorTime ∧ buf.emptyPoint = x.buffer.emptyPoint)
    (moved : n.state ≠ x.buffer.playback ∨ n.level ≠ none ∨ speed ≠ g.speed →
      buf.anchor = x.levelBy now n ∧ buf.anchorTime = now ∧
      buf.emptyPoint = if n.state = .playing ∧ buf.anchor ≠ 0 then
          some (later now (ceilDiv (buf.anchor * 8) speed)) else none)
    (free : p.freshnessLimit = none → buf.freshness = .fresh ∧ buf.freshTimer = none)
    (supervised : ∀ f, p.freshnessLimit = some f → n.state ≠ .stopped →
      buf.freshness = (if x.buffer.freshness = .blind then .recovering else .fresh) ∧
      buf.freshTimer = some (later now f))
    (stopped : ∀ f, p.freshnessLimit = some f → n.state = .stopped → buf.freshness = x.buffer.freshness ∧
      buf.freshTimer = if x.buffer.playback = .stopped then x.buffer.freshTimer else none) :
    x.playedBuffer p g.speed speed now n = buf := by
  have supervision : buf.freshness = p.freshnessLimit.elim .fresh (fun _ =>
        if n.state = .stopped then x.buffer.freshness else x.buffer.freshness.reported) ∧
      buf.freshTimer = p.freshnessLimit.elim none fun f => if n.state = .stopped then
        (if x.buffer.playback = .stopped then x.buffer.freshTimer else none) else some (later now f) := by
    cases limit : p.freshnessLimit with
    | none => exact free limit
    | some f =>
      by_cases stops : n.state = .stopped
      · simpa only [Option.elim, if_pos stops] using stopped f limit stops
      · simpa only [Option.elim, if_neg stops, Freshness.reported_eq] using supervised f limit stops
  obtain ⟨freshness, freshTimer⟩ := supervision
  obtain ⟨playback', anchors, freshness', freshTimer'⟩ := x.playedBuffer_fields p g.speed speed now n
  refine BufferModel.eq_of_fields (playback'.trans playback.symm) ?_ (freshness'.trans freshness.symm)
    (freshTimer'.trans freshTimer.symm)
  by_cases unmoved : x.unplaced n = true ∧ speed = g.speed
  · obtain ⟨unplaced, kept⟩ := unmoved
    obtain ⟨same, level⟩ := Session.unplaced_iff.mp unplaced
    obtain ⟨anchor, anchorTime, emptyPoint⟩ := still ⟨same, level, kept⟩
    rw [anchors, if_pos ⟨unplaced, kept⟩, anchor, anchorTime, emptyPoint]
  · have changes : n.state ≠ x.buffer.playback ∨ n.level ≠ none ∨ speed ≠ g.speed := by
      rw [Session.unplaced_iff] at unmoved
      tauto
    obtain ⟨anchor, anchorTime, emptyPoint⟩ := moved changes
    rw [anchors, if_neg unmoved, emptyPoint, anchorTime, anchor]

/-! The hints (R14, R15). -/

theorem Effective.hinted_eq (g : Effective) (p : Profile) (n : PlayNote) {ceiling target speed : Option Nat}
    (hceiling : ceiling = unpinned p.pins.ceiling n.ceiling) (htarget : target = unpinned p.pins.target n.target)
    (hspeed : speed = unpinned p.pins.speed n.speed) : g.hinted p n =
      { ceiling := ceiling.elim g.ceiling (clampTo 0 11)
        ceilingSource := if ceiling = none then g.ceilingSource else .hint
        target := target.elim g.target (clampTo 2000 120000)
        targetSource := if target = none then g.targetSource else .hint
        speed := speed.elim g.speed (clampTo 4 16)
        speedSource := if speed = none then g.speedSource else .hint
        lowGuard := if target.elim g.target (clampTo 2000 120000) = g.target then g.lowGuard
                    else min p.lowGuard (target.elim g.target (clampTo 2000 120000))
        panicLevel := if target.elim g.target (clampTo 2000 120000) = g.target then g.panicLevel
                      else min p.panicLevel (min p.lowGuard (target.elim g.target (clampTo 2000 120000))) } := by
  subst hceiling htarget hspeed
  unfold Effective.hinted
  cases unpinned p.pins.speed n.speed with
  | none | some s =>
    cases unpinned p.pins.ceiling n.ceiling with
    | none | some c =>
      cases unpinned p.pins.target n.target with
      | none => simp
      | some t => by_cases same : clampTo 2000 120000 t = g.target <;> simp [same, Effective.withTarget]

theorem Session.playClamped_iff (profile : x.profile = some p) (eff : x.eff = some g) : x.playClamped n = true ↔
    (∃ v, n.level = some v ∧ 120000 < v) ∨ (∃ v, unpinned p.pins.ceiling n.ceiling = some v ∧ 11 < v) ∨
      (∃ v, unpinned p.pins.target n.target = some v ∧ (v < 2000 ∨ 120000 < v)) ∨
      (∃ v, unpinned p.pins.speed n.speed = some v ∧ (v < 4 ∨ 16 < v)) ∨
      ((g.hinted p n).target ≠ g.target ∧
        ((g.hinted p n).lowGuard < p.lowGuard ∨ (g.hinted p n).panicLevel < p.panicLevel)) := by
  have beyond : ∀ {lo hi : Nat} (o : Option Nat), lo ≤ hi →
      (outside lo hi o = true ↔ ∃ v, o = some v ∧ (v < lo ∨ hi < v)) := by
    intro lo hi o h
    rw [outside, Option.any_eq_true]
    refine exists_congr fun v => and_congr_right fun _ => ?_
    rw [decide_eq_true_eq, clampTo]
    omega
  simp only [Session.playClamped, profile, eff, Bool.or_eq_true, Bool.and_eq_true, decide_eq_true_eq, beyond _ (Nat.zero_le _),
    beyond _ (show 2000 ≤ 120000 by decide), beyond _ (show 4 ≤ 16 by decide), Nat.not_lt_zero, false_or, levelMax, or_assoc]

end

/-- Settles O44: the record after the four steps, and what a changed ceiling, speed, target or buffer model makes follow. -/
theorem playReportsAndHints : Obligations.PlayReportsAndHints := by
  rintro s b n i p g h x ceiling target speed buf stored lowered shared examined clamped hears named streaming profile eff rfl
    hceiling htarget hspeed hh playback still moved free supervised stopped hstored hlowered hshared hexamined hclamped
  have hints : g.hinted p n = h := (Effective.hinted_eq g p n hceiling htarget hspeed).trans hh.symm
  have buffer : (s.session i).playedBuffer p g.speed h.speed s.time n = buf :=
    Session.playedBuffer_eq playback still moved free supervised stopped
  have record := Session.played_eq (now := s.time) (n := n) profile eff
  rw [hints, buffer] at record
  have store : (s.modSession i fun _ => (s.session i).played s.time n) = stored := by
    rw [hstored]
    exact State.modSession_congr record
  have ceilings : ((s.session i).played s.time n).ceiling = (s.session i).ceiling ↔ h.ceiling = g.ceiling := by
    simp [record, Session.ceiling, eff]
  have speeds : ((s.session i).played s.time n).speed = (s.session i).speed ↔ h.speed = g.speed := by
    simp [record, Session.speed, eff]
  have targets : ((s.session i).played s.time n).targets = (s.session i).targets ↔
      (h.target, h.lowGuard, h.panicLevel) = (g.target, g.lowGuard, g.panicLevel) := by
    simp [record, Session.targets, eff]
  have follows : s.playReport i n = examined := by
    simp only [State.playReport, store, ceilings, speeds, targets, Bool.and_eq_true, Bool.or_eq_true, decide_eq_true_eq,
      hexamined, hshared, hlowered, ne_eq, or_assoc, Option.isSome_iff_ne_none, eq_comm (a := (s.session i).buffer.playback)]
  have answered : (s.session i).playClamped n = clamped := by
    rw [Bool.eq_iff_iff, Session.playClamped_iff profile eff, hclamped, hceiling, htarget, hspeed, hints]
    rfl
  have result : s.playBody (some n) = (examined, Answer.done clamped) := by
    rw [State.playBody, State.sessionNote_admitted named (admission_streamingOnly.mpr streaming), follows, answered]
  exact hears.doesAtGate (c := .play (some n)) rfl result (follows ▸ s.playReport_gateWork i n) rfl

end Sys2Proof.Machine

/-! SUPPORT. Ladders, moves of a rung and the derivation of followers, said once (R34, R99, R103), and what is settled with
them: the lowering by the limits (O29), an overdraw (O50) and a judgement's application (O54). -/

namespace Sys2Proof.Machine

/-! The allowed rungs (R34). -/

section
variable {l : Ladder} {low ceiling : Nat} {cap : Option Nat}

theorem Ladder.IsLowest.lowest_eq (h : l.IsLowest low) : l.lowest = low := by
  obtain ⟨inside, usable, below⟩ := h
  have found : (List.range l.count).find? l.usable = some low := by
    rw [List.find?_range_eq_some]
    exact ⟨usable, List.mem_range.mpr inside, fun j hj => by simp [below j hj]⟩
  simp [Ladder.lowest, found]

theorem Ladder.IsLowest.allowed_iff (h : l.IsLowest low) (k : Nat) :
    l.allowed ceiling cap k = true ↔ l.Allows low ceiling cap k := by
  have capped : (cap.all fun c => decide (k ≤ c)) = true ↔ ∀ c, cap = some c → k ≤ c := by
    cases cap <;> simp
  simp only [Ladder.allowed, h.lowest_eq, Bool.and_eq_true, Bool.or_eq_true, decide_eq_true_eq, capped, Ladder.Allows]

theorem Ladder.IsLowest.allows (h : l.IsLowest low) : l.Allows low ceiling cap low := ⟨h.2.1, .inl rfl⟩

/-- The last element of a filtered range is the highest index that meets the test. -/
theorem getLast?_filter_range_isHighest (n : Nat) (test : Nat → Bool) (otherwise : Nat) :
    IsHighest n (fun k => test k = true) otherwise ((((List.range n).filter test).getLast?).getD otherwise) := by
  induction n with
  | zero => exact .inr ⟨fun j hj => absurd hj (Nat.not_lt_zero j), rfl⟩
  | succ n ih =>
    rw [List.range_succ, List.filter_append]
    by_cases top : test n = true
    · have one : [n].filter test = [n] := by simp [top]
      rw [one, List.getLast?_concat]
      exact .inl ⟨Nat.lt_succ_self n, top, fun j hj _ => Nat.lt_succ_iff.mp hj⟩
    · have none' : [n].filter test = [] := by simp [top]
      rw [none', List.append_nil]
      have narrow : ∀ j, j < n + 1 → test j = true → j < n := fun j hj meets =>
        lt_of_le_of_ne (Nat.lt_succ_iff.mp hj) fun same => top (same ▸ meets)
      rcases ih with ⟨inside, meets, highest⟩ | ⟨none_meets, other⟩
      · exact .inl ⟨Nat.lt_succ_of_lt inside, meets, fun j hj hm => highest j (narrow j hj hm) hm⟩
      · exact .inr ⟨fun j hj hm => none_meets j (narrow j hj hm) hm, other⟩

theorem IsHighest.congr {n o k : Nat} {P Q : Nat → Prop} (h : IsHighest n P o k) (same : ∀ j, P j ↔ Q j) : IsHighest n Q o k := by
  simpa only [IsHighest, same] using h

theorem IsHighest.unique {n o k m : Nat} {P : Nat → Prop} (h : IsHighest n P o k) (g : IsHighest n P o m) : k = m := by
  rcases h with ⟨inside, meets, highest⟩ | ⟨none_meets, rfl⟩
  · rcases g with ⟨inside', meets', highest'⟩ | ⟨none_meets', -⟩
    · exact Nat.le_antisymm (highest' k inside meets) (highest m inside' meets')
    · exact absurd meets (none_meets' k inside)
  · rcases g with ⟨inside', meets', -⟩ | ⟨-, rfl⟩
    · exact absurd meets' (none_meets m inside')
    · rfl

/-- The highest allowed rung that meets a test, and the lowest rung that is not skipped when none does. -/
theorem Ladder.IsLowest.highestAllowed (h : l.IsLowest low) (test : Nat → Bool) :
    IsHighest l.rungs.length (fun k => l.Allows low ceiling cap k ∧ test k = true) low (l.highestAllowed ceiling cap test) := by
  have highest := getLast?_filter_range_isHighest l.rungs.length (fun k => l.allowed ceiling cap k && test k) low
  have found : l.highestAllowed ceiling cap test =
      ((((List.range l.rungs.length).filter fun k => l.allowed ceiling cap k && test k).getLast?).getD low) := by
    rw [Ladder.highestAllowed, Ladder.allowedRungs, List.filter_filter, h.lowest_eq]
    simp only [Bool.and_comm, Ladder.count]
  rw [found]
  exact highest.congr fun j => by rw [Bool.and_eq_true, h.allowed_iff]

end

/-! A session's own rungs. -/

section
variable {x : Session} {l : Ladder} {e : Effective} {low : Nat}

theorem Session.ladder_of_published (published : x.published = some l) : x.ladder = l := by simp [Session.ladder, published]

theorem Session.ceiling_of_eff (eff : x.eff = some e) : x.ceiling = e.ceiling := by simp [Session.ceiling, eff]

theorem Session.highestAllowed_isHighest (published : x.published = some l) (eff : x.eff = some e) (lowest : l.IsLowest low)
    (cap : Option Nat) {test : Nat → Bool} {P : Nat → Prop} (reads : ∀ j, test j = true ↔ P j) :
    IsHighest l.rungs.length (fun j => l.Allows low e.ceiling cap j ∧ P j) low (x.ladder.highestAllowed x.ceiling cap test) := by
  rw [Session.ladder_of_published published, Session.ceiling_of_eff eff]
  exact (lowest.highestAllowed test).congr fun j => by rw [reads]

theorem Session.fallbackRung_isHighest (published : x.published = some l) (eff : x.eff = some e) (lowest : l.IsLowest low) :
    IsHighest l.rungs.length (fun j => l.Allows low e.ceiling x.draw.cap j ∧ j ≤ l.fallback) low x.fallbackRung := by
  have highest := Session.highestAllowed_isHighest published eff lowest x.draw.cap
    (test := fun k => decide (k ≤ l.fallback)) fun _ => decide_eq_true_iff
  rwa [Session.fallbackRung, Session.allowedAtOrBelow, Session.ladder_of_published published] at *

/-- A move to a rung sets and counts it (R19, R28). -/
theorem Session.moveTo_eq (x : Session) (k : Nat) : x.moveTo k = x.withRung k := by
  unfold Session.moveTo Session.withRung
  split
  · next rung => simp [rung]
  · next r rung =>
    simp only [rung, Option.any_some, decide_eq_true_eq]
    rcases Nat.lt_trichotomy r k with up | rfl | down
    · simp only [if_pos up, if_neg (Nat.lt_asymm up)]
    · simp only [Nat.lt_irrefl, if_false, ← rung]
    · simp only [if_pos down, if_neg (Nat.lt_asymm down)]

theorem Session.restartUpHold_eq {p : Profile} (profile : x.profile = some p) (now : Time) :
    x.restartUpHold now = { x with upHold := p.upHoldFrom now } := by
  simp only [Session.restartUpHold, profile, Profile.upHoldFrom]

end

/-! The derivation of followers (R103). -/

/-- A follower derived from a leader rung. -/
def Session.derived (x : Session) (e : FollowerEntry) (k : Nat) : Session :=
  if x.isStreaming then x.withRung (x.mappedRung e k) else x

/-- From s to t the sessions of a list of entries are derived from a leader rung, and nothing else changes. -/
structure DerivedFrom (s t : State) (fs : List FollowerEntry) (k : Nat) : Prop where
  records : RecordsOnly s t
  others : ∀ j, (∀ e ∈ fs, e.index ≠ j) → t.session j = s.session j
  listed : ∀ e ∈ fs, t.session e.index = (s.session e.index).derived e k

section
variable {s t : State} {i : SessionIx} {fs : List FollowerEntry} {k : Nat}

theorem DerivedFrom.nil (s : State) (k : Nat) : DerivedFrom s s [] k := ⟨.refl s, fun _ _ => rfl, nofun⟩

/-- What a derivation does, in the words of R103. -/
theorem DerivedFrom.followersDerived (h : DerivedFrom s t fs k) : s.FollowersDerived t fs k := by
  obtain ⟨records, others, listed⟩ := h
  refine ⟨records, others, fun e he => ⟨fun still => ?_, fun l g low streaming published eff lowest => ?_⟩⟩
  · rw [listed e he, Session.derived, if_neg (by simpa [Session.isStreaming] using still)]
  · refine ⟨(s.session e.index).mappedRung e k, ?_, ?_⟩
    · exact Session.highestAllowed_isHighest published eff lowest none fun _ => decide_eq_true_iff
    · rw [listed e he, Session.derived, if_pos (by simpa [Session.isStreaming] using streaming)]

/-- A derivation does not meet a change of a record that is not derived. -/
theorem DerivedFrom.modSession (h : DerivedFrom s t fs k) (apart : ∀ e ∈ fs, e.index ≠ i) (f : Session → Session) :
    DerivedFrom (s.modSession i f) (t.modSession i f) fs k := by
  obtain ⟨records, others, listed⟩ := h
  refine ⟨?_, fun j hj => ?_, fun e he => ?_⟩
  · have same : t.modSession i f = { s with sessions := (t.modSession i f).sessions } := by
      conv_lhs => rw [State.modSession, records]
      rfl
    exact same
  · rw [State.modSession_session, State.modSession_session, others j hj]
  · rw [State.modSession_session_ne _ _ _ _ (apart e he), State.modSession_session_ne _ _ _ _ (apart e he), listed e he]

theorem State.derive_session {e : FollowerEntry} (rung : (s.session i).rung = some k) (j : SessionIx) :
    (s.derive i e).session j = if j = e.index then (s.session j).derived e k else s.session j := by
  unfold State.derive
  simp only [rung]
  by_cases streaming : (s.session e.index).isStreaming = true
  · rw [if_pos streaming, State.modSession_session]
    split
    · next h => rw [h, Session.moveTo_eq, Session.derived, if_pos streaming]
    · rfl
  · rw [if_neg streaming]
    split
    · next h => rw [h, Session.derived, if_neg streaming]
    · rfl

/-- Deriving distinct followers one after the other derives each once. -/
theorem State.foldl_derive_session (es : List FollowerEntry) (distinct : (es.map FollowerEntry.index).Nodup)
    (apart : ∀ e ∈ es, e.index ≠ i) (s : State) (rung : (s.session i).rung = some k) :
    DerivedFrom s (es.foldl (fun t e => t.derive i e) s) es k := by
  induction es generalizing s with
  | nil => exact .nil s k
  | cons e es ih =>
    obtain ⟨fresh, rest⟩ := List.nodup_cons.mp distinct
    have leader : ((s.derive i e).session i).rung = some k := by
      rw [State.derive_session rung, if_neg (Ne.symm (apart e List.mem_cons_self)), rung]
    obtain ⟨records, others, listed⟩ := ih rest (fun g hg => apart g (List.mem_cons_of_mem _ hg)) (s.derive i e) leader
    have unlisted : ∀ g ∈ es, g.index ≠ e.index := fun g hg same => fresh (same ▸ List.mem_map_of_mem hg)
    refine ⟨(s.derive_records i e).trans records, fun j hj => ?_, fun g hg => ?_⟩
    · rw [List.foldl_cons, others j fun g hg => hj g (List.mem_cons_of_mem _ hg), State.derive_session rung,
        if_neg (Ne.symm (hj e List.mem_cons_self))]
    · rw [List.foldl_cons]
      rcases List.mem_cons.mp hg with rfl | hg
      · rw [others _ unlisted, State.derive_session rung, if_pos rfl]
      · rw [listed g hg, State.derive_session rung, if_neg (unlisted g hg)]

theorem State.deriveAll_derived (rung : (s.session i).rung = some k) (distinct : ((s.session i).followers.map FollowerEntry.index).Nodup)
    (apart : ∀ e ∈ (s.session i).followers, e.index ≠ i) : DerivedFrom s (s.deriveAll i) (s.session i).followers k :=
  State.foldl_derive_session _ distinct apart s rung

/-- A move to another rung moves the session's own and derives its followers (R99). -/
theorem State.moveRung_derived (moves : (s.session i).rung ≠ some k) (distinct : ((s.session i).followers.map FollowerEntry.index).Nodup)
    (apart : ∀ e ∈ (s.session i).followers, e.index ≠ i) :
    DerivedFrom (s.modSession i fun x => x.withRung k) (s.moveRung i k) (s.session i).followers k := by
  have moved : (s.modSession i fun x => x.moveTo k) = s.modSession i fun x => x.withRung k :=
    State.modSession_congr (Session.moveTo_eq _ k)
  have followers : ((s.modSession i fun x => x.withRung k).session i).followers = (s.session i).followers := by
    rw [State.modSession_session_self]
    rfl
  have rung : ((s.modSession i fun x => x.withRung k).session i).rung = some k := by
    rw [State.modSession_session_self]
    rfl
  rw [State.moveRung, if_neg moves, moved]
  exact followers ▸ State.deriveAll_derived rung (followers.symm ▸ distinct) (followers.symm ▸ apart)

end

/-- Settles O29: an allowed rung stays, and a lowered one is the highest allowed rung at or below it. -/
theorem limitsLowerTheRung : Obligations.LimitsLowerTheRung := by
  intro s i l e r low streaming published eff rung lowest
  have on : (s.session i).isStreaming = true := by simp [Session.isStreaming, streaming]
  have allowed : (s.session i).ladder.allowed (s.session i).ceiling (s.session i).draw.cap r = true ↔
      l.Allows low e.ceiling (s.session i).draw.cap r := by
    rw [Session.ladder_of_published published, Session.ceiling_of_eff eff, lowest.allowed_iff]
  refine ⟨Session.fallbackRung_isHighest published eff lowest, fun allows => ?_, fun above forbidden distinct apart => ?_⟩
  · simp [State.lowerToAllowed, rung, allowed.mpr allows]
  · have highest : IsHighest l.rungs.length (fun k => l.Allows low e.ceiling (s.session i).draw.cap k ∧ k ≤ r) low
        ((s.session i).allowedAtOrBelow r) :=
      Session.highestAllowed_isHighest published eff lowest _ fun _ => decide_eq_true_iff
    have down : (s.session i).allowedAtOrBelow r < r := by
      rcases highest with ⟨-, ⟨allows, below⟩, -⟩ | ⟨none_below, -⟩
      · exact lt_of_le_of_ne below fun same => forbidden (same ▸ allows)
      · exact absurd ⟨lowest.allows, above⟩ (none_below low lowest.1)
    refine ⟨_, highest, down, ?_⟩
    have lowers : s.lowerToAllowed i = s.moveRung i ((s.session i).allowedAtOrBelow r) := by
      have off : (s.session i).ladder.allowed (s.session i).ceiling (s.session i).draw.cap r = false := by
        rw [← Bool.not_eq_true, allowed]; exact forbidden
      simp [State.lowerToAllowed, rung, on, off]
    have moves : (s.session i).rung ≠ some ((s.session i).allowedAtOrBelow r) := by
      rw [rung]
      exact fun same => absurd (Option.some.inj same) (Nat.ne_of_gt down)
    have counted : (s.modSession i fun x => x.withRung ((s.session i).allowedAtOrBelow r)) = s.modSession i fun x =>
        { x with rung := some ((s.session i).allowedAtOrBelow r), stats.rungMovesDown := x.stats.rungMovesDown + 1 } :=
      State.modSession_congr (by simp [Session.withRung, rung, down, Nat.lt_asymm down])
    rw [lowers, ← counted]
    exact (State.moveRung_derived moves distinct apart).followersDerived

end Sys2Proof.Machine

/-! SUPPORT. A judgement's application (O54) and an overdraw (O50). -/

namespace Sys2Proof.Machine

section
variable {s : State} {i j a : SessionIx} {v r : Nat} {p : Profile}

/-! The application of a verdict (R89, R90, R99). -/

theorem State.applyVerdict_of_eq (rung : (s.session i).rung = some v) : s.applyVerdict i v = s := if_pos rung

theorem State.applyVerdict_derived (rung : (s.session i).rung = some r) (profile : (s.session i).profile = some p) (other : v ≠ r)
    (distinct : ((s.session i).followers.map FollowerEntry.index).Nodup)
    (apart : ∀ e ∈ (s.session i).followers, e.index ≠ i) :
    DerivedFrom (s.modSession i fun x => { x.withRung v with upHold := p.upHoldFrom s.time }) (s.applyVerdict i v)
      (s.session i).followers v := by
  have moves : (s.session i).rung ≠ some v := by
    rw [rung]
    exact fun same => other (Option.some.inj same).symm
  have derived := (State.moveRung_derived moves distinct apart).modSession apart fun x => x.restartUpHold s.time
  rw [State.modSession_modSession] at derived
  have held : (s.modSession i fun x => (x.withRung v).restartUpHold s.time) =
      s.modSession i fun x => { x.withRung v with upHold := p.upHoldFrom s.time } :=
    State.modSession_congr (Session.restartUpHold_eq (x := (s.session i).withRung v) profile s.time)
  rw [held] at derived
  rw [State.applyVerdict, if_neg moves]
  exact derived

theorem State.judge_of_free (free : ∀ m, (s.session a).role ≠ .follower m) : s.judge a = s.applyVerdict a (s.verdict a) := by
  unfold State.judge State.judged
  cases role : (s.session a).role with
  | follower m => exact absurd role (free m)
  | independent => rfl
  | leader fs => rfl

theorem State.judge_of_leader (follows : (s.session a).role = .follower j) (streaming : (s.session j).admin = .streaming) :
    s.judge a = s.applyVerdict j (s.verdict j) := by
  have on : (s.session j).isStreaming = true := by simp [Session.isStreaming, streaming]
  simp only [State.judge, State.judged, follows, on, if_true, Bool.false_eq_true, if_false]

theorem State.judge_of_alone (follows : (s.session a).role = .follower j) (still : (s.session j).admin ≠ .streaming) :
    s.judge a = s.applyVerdict a (s.session a).fallbackRung := by
  have off : (s.session j).isStreaming = false := by simpa [Session.isStreaming] using still
  simp only [State.judge, State.judged, follows, off, if_true, Bool.false_eq_true, if_false]

end

/-- Settles O54: the judged session takes the verdict, or keeps its rung. -/
theorem judgementIsApplied : Obligations.JudgementIsApplied := by
  intro s a j v r p judged rung profile distinct apart
  have judge : s.judge a = s.applyVerdict j v := by
    rcases judged with ⟨free, rfl, rfl⟩ | ⟨follows, streaming, rfl⟩ | ⟨rfl, ⟨m, follows, still⟩, rfl⟩
    · exact State.judge_of_free free
    · exact State.judge_of_leader follows streaming
    · exact State.judge_of_alone follows still
  rw [judge]
  refine ⟨fun same => State.applyVerdict_of_eq (same ▸ rung), fun other => ?_⟩
  exact (State.applyVerdict_derived rung profile other distinct apart).followersDerived

/-! An overdraw (R138, R139). -/

/-- The draw fields an overdraw leaves, where used tells whether the retries are used up. -/
theorem Session.overdrawn_eq {x : Session} {p : Profile} {used : Bool} (profile : x.profile = some p)
    (hused : used = true ↔ p.retryLimit ≤ x.draw.retriesUsed) (now : Time) (d : Nat) : x.overdrawn now d = { x with
      stats := { x.stats with overdraws := x.stats.overdraws + 1 }
      draw := { x.draw with
        cap := some d, overTime := 0, quietRun := 0, penaltyMark := true
        phase := if used then .latched else .retryWait
        retryTimer := if used then none else some (later now p.retryInterval) } } := by
  unfold Session.overdrawn
  simp only [profile, ← hused]
  cases used <;> rfl

theorem Session.overdrawCause_eq {x : Session} {p : Profile} {used : Bool} (profile : x.profile = some p)
    (hused : used = true ↔ p.retryLimit ≤ x.draw.retriesUsed) : x.overdrawCause = if used then .latched else .overdraw := by
  simp only [Session.overdrawCause, profile, Option.elim, ← hused]

/-- Settles O50: the marks, the demoted rung with its followers, and the recomputation. -/
theorem overdrawDemotes : Obligations.OverdrawDemotes := by
  rintro s base i x y p l e r low d used hx streaming free profile published eff rung lowest distinct apart hd hused hy hbase
  have demoted : x.demotedRung = d := by
    refine IsHighest.unique ?_ hd
    have highest := Session.highestAllowed_isHighest published eff lowest none
      (test := fun k => decide (k < x.rung.getD 0)) (P := fun k => k < r) fun j => by simp [rung]
    exact highest
  refine ⟨demoted, ?_⟩
  subst hx
  set capped := s.modSession i fun y => y.overdrawn s.time d with hcapped
  set lowered := if d < r then capped.moveRung i d else capped with hlowered
  set told := lowered.modSession i fun y => { y.restartUpHold s.time with
    causes := y.causes ||| (if used then Cause.latched.bit else Cause.overdraw.bit) } with htold
  have record : capped.session i = (s.session i).overdrawn s.time d := State.modSession_session_self s i _
  have shape := Session.overdrawn_eq profile hused s.time d
  have overdraw : s.overdraw i = told.recompute := by
    have current : (s.session i).rung.getD 0 = r := by rw [rung]; rfl
    have cause : (lowered.modSession i fun y => y.restartUpHold s.time).raiseOn i (s.session i).overdrawCause = told := by
      rw [State.raiseOn, State.modSession_modSession, Session.overdrawCause_eq profile hused]
      have bit : (if used then Cause.latched else Cause.overdraw).bit =
          if used then Cause.latched.bit else Cause.overdraw.bit := by cases used <;> rfl
      rw [bit, htold]
      refine State.modSession_congr ?_
      unfold Session.restartUpHold
      split <;> rfl
    simp only [State.overdraw, demoted, current]
    rw [← cause]
  refine ⟨told, overdraw, ?_⟩
  by_cases down : d < r
  · rw [if_pos down]
    have moves : (capped.session i).rung ≠ some d := by
      rw [record, shape, rung]
      exact fun same => Nat.ne_of_gt down (Option.some.inj same)
    have followers : (capped.session i).followers = (s.session i).followers := by rw [record, shape]; rfl
    have derived := (State.moveRung_derived moves (followers.symm ▸ distinct) (followers.symm ▸ apart)).modSession
      (followers.symm ▸ apart) fun y => { y.restartUpHold s.time with
        causes := y.causes ||| (if used then Cause.latched.bit else Cause.overdraw.bit) }
    have lowers : lowered = capped.moveRung i d := if_pos down
    have start : base = (capped.modSession i fun x => x.withRung d).modSession i fun y => { y.restartUpHold s.time with
        causes := y.causes ||| (if used then Cause.latched.bit else Cause.overdraw.bit) } := by
      rw [hbase, hcapped, State.modSession_modSession, State.modSession_modSession, hy, if_pos down]
      refine State.modSession_congr ?_
      rw [shape, Session.restartUpHold_eq (p := p) (by exact profile)]
      rfl
    rw [start, htold, lowers]
    exact (followers ▸ derived).followersDerived
  · rw [if_neg down]
    have stays : lowered = capped := if_neg down
    have start : base = told := by
      rw [hbase, htold, stays, hcapped, State.modSession_modSession, hy, if_neg down]
      refine State.modSession_congr ?_
      rw [shape, Session.restartUpHold_eq (p := p) (by exact profile)]
    rw [start]
    exact (DerivedFrom.nil told d).followersDerived

end Sys2Proof.Machine

/-! SUPPORT. The verdict (O53): zone, usable rate and rate candidate as the rules R91 to R98 name them. -/

namespace Sys2Proof.Machine

/-- A fold by the lesser value ends at a bound that is taken. -/
theorem foldl_min_eq {α : Type} (g : α → Nat) (l : List α) (a level : Nat) (taken : level = a ∨ ∃ x ∈ l, level = g x)
    (first : level ≤ a) (below : ∀ x ∈ l, level ≤ g x) : l.foldl (fun m x => min m (g x)) a = level := by
  induction l generalizing a with
  | nil => simpa [eq_comm] using taken
  | cons x l ih =>
    have here : level ≤ g x := below x List.mem_cons_self
    refine ih (min a (g x)) ?_ (le_min first here) fun y hy => below y (List.mem_cons_of_mem x hy)
    rcases taken with rfl | ⟨y, hy, rfl⟩
    · exact .inl (min_eq_left here).symm
    · rcases List.mem_cons.mp hy with rfl | hy
      · exact .inl (min_eq_right first).symm
      · exact .inr ⟨y, hy, rfl⟩

section
variable {s : State} {i : SessionIx} {member : SessionIx → Prop} {level : Nat}

theorem State.mem_members (members : ∀ m, member m ↔ m = i ∨ ∃ f ∈ (s.session i).followers, f.index = m) (m : SessionIx) :
    m ∈ s.members i ↔ member m := by
  simp [State.members, members]

theorem State.mem_streamingMembers (members : ∀ m, member m ↔ m = i ∨ ∃ f ∈ (s.session i).followers, f.index = m) (m : SessionIx) :
    m ∈ s.streamingMembers i ↔ member m ∧ (m = i ∨ (s.session m).admin = .streaming) := by
  simp only [State.streamingMembers, List.mem_cons, List.mem_filter, List.mem_map, Session.isStreaming, decide_eq_true_eq, members]
  tauto

/-- The zone level is the least level of the session and its STREAMING followers (R92). -/
theorem State.zoneLevel_eq (members : ∀ m, member m ↔ m = i ∨ ∃ f ∈ (s.session i).followers, f.index = m)
    (taken : ∃ m, member m ∧ (m = i ∨ (s.session m).admin = .streaming) ∧ level = (s.session m).level s.time)
    (below : ∀ m, member m → m = i ∨ (s.session m).admin = .streaming → level ≤ (s.session m).level s.time) :
    s.zoneLevel i = level := by
  refine foldl_min_eq (fun f => (s.session f).level s.time) _ _ level ?_ ?_ fun m hm => ?_
  · obtain ⟨m, hm, on, same⟩ := taken
    exact .inr ⟨m, (State.mem_streamingMembers members m).mpr ⟨hm, on⟩, same⟩
  · exact below i ((members i).mpr (.inl rfl)) (.inl rfl)
  · obtain ⟨hm, on⟩ := (State.mem_streamingMembers members m).mp hm
    exact below m hm on

theorem State.anyStalled_iff (members : ∀ m, member m ↔ m = i ∨ ∃ f ∈ (s.session i).followers, f.index = m) :
    s.anyStalled i = true ↔ ∃ m, member m ∧ (s.session m).buffer.playback = .stalled := by
  simp only [State.anyStalled, List.any_eq_true, State.mem_members members, decide_eq_true_eq]

theorem State.anyNotFresh_iff (members : ∀ m, member m ↔ m = i ∨ ∃ f ∈ (s.session i).followers, f.index = m) :
    s.anyNotFresh i = true ↔ ∃ m, member m ∧ (s.session m).buffer.freshness ≠ .fresh := by
  simp only [State.anyNotFresh, List.any_eq_true, State.mem_members members, decide_eq_true_eq]

/-- The zones by stall, panic level, low guard and target (R92). -/
theorem State.zone_eq {e : Effective} (eff : (s.session i).eff = some e) : s.zone i =
    if s.anyStalled i = true ∨ s.zoneLevel i < e.panicLevel then .panic
    else if s.zoneLevel i < e.lowGuard then .low
    else if s.zoneLevel i < e.target then .steady
    else .full := by
  unfold State.zone
  simp only [eff]
  by_cases stalled : s.anyStalled i = true
  · rw [if_pos stalled, if_pos (.inl stalled)]
  · simp only [stalled, if_false, Bool.false_eq_true, false_or]

theorem State.zone_eq_panic_iff {e : Effective} (eff : (s.session i).eff = some e) :
    s.zone i = .panic ↔ s.anyStalled i = true ∨ s.zoneLevel i < e.panicLevel := by
  rw [State.zone_eq eff]
  by_cases panics : s.anyStalled i = true ∨ s.zoneLevel i < e.panicLevel
  · rw [if_pos panics]
    exact ⟨fun _ => panics, fun _ => rfl⟩
  · rw [if_neg panics]
    refine ⟨fun same => ?_, fun h => absurd h panics⟩
    split at same
    · cases same
    · split at same <;> cases same

end

section
variable {x : Session} {l : Ladder} {e : Effective} {low r u : Nat}

/-- The step up is to the lowest allowed rung above the current one (R97). -/
theorem Session.oneUp_eq (published : x.published = some l) (eff : x.eff = some e) (lowest : l.IsLowest low)
    (clear : x.upHold = none) (inside : u < l.rungs.length) (allowed : l.Allows low e.ceiling x.draw.cap u) (above : r < u)
    (next : ∀ j, j < u → r < j → ¬ l.Allows low e.ceiling x.draw.cap j) : x.oneUp r = u := by
  have found : (((List.range l.rungs.length).filter fun k => l.allowed e.ceiling x.draw.cap k).find? fun k => decide (r < k)) =
      some u := by
    rw [List.find?_filter, List.find?_range_eq_some]
    refine ⟨by simp [lowest.allowed_iff, allowed, above], List.mem_range.mpr inside, fun j hj => ?_⟩
    rcases Nat.lt_or_ge r j with further | near
    · have forbidden : l.allowed e.ceiling x.draw.cap j = false := by
        rw [← Bool.not_eq_true, lowest.allowed_iff]
        exact next j hj further
      simp [forbidden]
    · simp [near]
  unfold Session.oneUp
  rw [clear, Session.ladder_of_published published, Session.ceiling_of_eff eff]
  simp only [Ladder.lowestAbove, Ladder.allowedRungs, Ladder.count, found, Option.getD_some]

theorem Session.oneUp_of_held (held : x.upHold ≠ none) : x.oneUp r = r := by
  obtain ⟨t, ht⟩ := Option.ne_none_iff_exists'.mp held
  simp only [Session.oneUp, ht]

end

/-- The rate candidate is the highest allowed rung whose combined need the adjusted rate carries (R93). -/
theorem State.rateCandidate_isHighest {s : State} {i : SessionIx} {l : Ladder} {e : Effective} {low rate : Nat} {need : Nat → Nat}
    (published : (s.session i).published = some l) (eff : (s.session i).eff = some e) (lowest : l.IsLowest low)
    (usable : (s.session i).usableRate = rate) (needs : ∀ j, need j = s.combinedNeed i j) (z : Zone) :
    IsHighest l.rungs.length (fun j => l.Allows low e.ceiling (s.session i).draw.cap j ∧ need j ≤ rate * z.factor / 16) low
      (s.rateCandidate i z) :=
  Session.highestAllowed_isHighest published eff lowest _ fun j => by rw [decide_eq_true_iff, usable, needs]

/-- Settles O53: the freshness override, and the rule of each zone. -/
theorem verdictFollowsTheZone : Obligations.VerdictFollowsTheZone := by
  intro s i lad e z r low k level rate need allowed member free published eff shares rung lowest hallowed members taken below
    hrate needs
  have zoneLevel : s.zoneLevel i = level := State.zoneLevel_eq members taken below
  have panics : s.zone i = .panic ↔ (∃ m, member m ∧ (s.session m).buffer.playback = .stalled) ∨ level < e.panicLevel := by
    rw [State.zone_eq_panic_iff eff, State.anyStalled_iff members, zoneLevel]
  have usable : (s.session i).usableRate = rate := by
    have share : (s.session i).share = z.share := by simp [Session.share, shares]
    rw [hrate]
    unfold Session.usableRate Session.usableEstimate
    rw [share]
    cases (s.session i).estimates <;> rfl
  have candidate : ∀ z', IsHighest lad.rungs.length (fun j => allowed j ∧ need j ≤ rate * z'.factor / 16) low (s.rateCandidate i z') :=
    fun z' => (State.rateCandidate_isHighest published eff lowest usable needs z').congr fun j => by rw [hallowed]
  refine ⟨zoneLevel, panics, fun stale => ?_, fun fresh => ?_⟩
  · have verdict : s.verdict i = (s.session i).fallbackRung := by
      rw [State.verdict, if_pos ((State.anyNotFresh_iff members).mpr stale)]
    rw [verdict]
    exact (Session.fallbackRung_isHighest published eff lowest).congr fun j => by rw [hallowed]
  have verdict : s.verdict i = s.zoneVerdict i (s.zone i) r := by
    have current : ¬ s.anyNotFresh i = true := by
      rw [State.anyNotFresh_iff members]
      rintro ⟨m, hm, stale⟩
      exact stale (fresh m hm)
    rw [State.verdict, if_neg current, rung]
    rfl
  refine ⟨fun panic => ?_, fun playing calm => ?_⟩
  · rw [verdict, panics.mpr panic, ← lowest.lowest_eq, ← Session.ladder_of_published published]
    rfl
  have steady : ¬ (s.anyStalled i = true ∨ s.zoneLevel i < e.panicLevel) := by
    rw [State.anyStalled_iff members, zoneLevel]
    rintro (⟨m, hm, stalled⟩ | lower)
    · exact playing m hm stalled
    · exact Nat.not_lt.mpr calm lower
  refine ⟨fun lowLevel highest => ?_, fun guarded highest => ?_⟩
  · have zone : s.zone i = .low := by rw [State.zone_eq eff, if_neg steady, zoneLevel, if_pos lowLevel]
    rw [verdict, zone, highest.unique (candidate .low)]
    rfl
  have full : ∀ z' : Zone, z'.factor = 16 → s.rateCandidate i z' = k := fun z' factor => by
    have found := candidate z'
    rw [factor, Nat.mul_div_cancel _ (by decide)] at found
    exact found.unique highest
  have zone : s.zone i = if level < e.target then .steady else .full := by
    rw [State.zone_eq eff, if_neg steady, zoneLevel, if_neg (Nat.not_lt.mpr guarded)]
  have onTarget : level < e.target → s.verdict i = if k < r then k else if r < k then (s.session i).oneUp r else r := fun h => by
    rw [verdict, zone, if_pos h, ← full .steady rfl]
    rfl
  have aboveTarget : e.target ≤ level → s.verdict i = if r < k then (s.session i).oneUp r
      else if k < r ∧ rate < need r * 12 / 16 then k else r := fun h => by
    rw [verdict, zone, if_neg (Nat.not_lt.mpr h), State.zoneVerdict]
    simp only [full .full rfl, usable, ← needs, Bool.and_eq_true, decide_eq_true_eq]
  have upward : r < k → s.verdict i = (s.session i).oneUp r := fun h => by
    rcases Nat.lt_or_ge level e.target with lower | higher
    · rw [onTarget lower, if_neg (Nat.lt_asymm h), if_pos h]
    · rw [aboveTarget higher, if_pos h]
  refine ⟨fun down lower => ?_, fun down higher => ?_, fun same => ?_, fun up held => ?_, fun up clear u inside can above next => ?_⟩
  · rw [onTarget lower, if_pos down]
  · rw [aboveTarget higher, if_neg (Nat.lt_asymm down)]
    simp only [down, true_and]
  · rcases Nat.lt_or_ge level e.target with lower | higher
    · rw [onTarget lower, same, if_neg (Nat.lt_irrefl r), if_neg (Nat.lt_irrefl r)]
    · rw [aboveTarget higher, same, if_neg (Nat.lt_irrefl r), if_neg fun h => Nat.lt_irrefl r h.1]
  · rw [upward up, Session.oneUp_of_held held]
  · rw [upward up]
    exact Session.oneUp_eq published eff lowest clear inside ((hallowed u).mp can) above fun j hj hr => (hallowed j).not.mp (next j hj hr)

end Sys2Proof.Machine

/-! SUPPORT. What a judgement reads and what it moves: it moves rungs, their counts and up-holds alone, and it reads neither a
miss run nor a statistic (R89 to R99). With that, the passing of a deadline (O47). -/

namespace Sys2Proof.Machine

/-! What moves with a rung. -/

/-- The record with the rung, its counts and its up-hold cleared. -/
def Session.apartFromRung (x : Session) : Session :=
  { x with rung := none, upHold := none, stats := { x.stats with rungMovesUp := 0, rungMovesDown := 0 } }

/-- Only rungs, their counts and up-holds differ. -/
def OnlyRungs (s t : State) : Prop := ∀ i, (t.session i).apartFromRung = (s.session i).apartFromRung

section
variable {s t u : State} {i : SessionIx}

theorem OnlyRungs.refl (s : State) : OnlyRungs s s := fun _ => rfl

theorem OnlyRungs.trans (h : OnlyRungs s t) (k : OnlyRungs t u) : OnlyRungs s u := fun i => (k i).trans (h i)

theorem OnlyRungs.foldl {α : Type} (f : State → α → State) (step : ∀ s a, OnlyRungs s (f s a)) (l : List α) (s : State) :
    OnlyRungs s (l.foldl f s) :=
  foldl_related OnlyRungs OnlyRungs.refl OnlyRungs.trans f step l s

theorem OnlyRungs.modSession {f : Session → Session} (h : ∀ x, (f x).apartFromRung = x.apartFromRung) :
    OnlyRungs s (s.modSession i f) := fun j => by
  rw [State.modSession_session]
  split
  · exact h _
  · rfl

/-- A field that is apart from the rung stays. -/
theorem OnlyRungs.keeps {α : Type} (h : OnlyRungs s t) (field : Session → α) (apart : ∀ x, field x = field x.apartFromRung)
    (i : SessionIx) : field (t.session i) = field (s.session i) := by
  rw [apart (t.session i), h i, ← apart]

theorem Session.apartFromRung_moveTo (x : Session) (k : Nat) : (x.moveTo k).apartFromRung = x.apartFromRung := by
  rw [Session.moveTo_eq]
  rfl

theorem Session.apartFromRung_restartUpHold (x : Session) (now : Time) :
    (x.restartUpHold now).apartFromRung = x.apartFromRung := by
  unfold Session.restartUpHold
  split <;> rfl

theorem State.derive_onlyRungs (s : State) (l : SessionIx) (e : FollowerEntry) : OnlyRungs s (s.derive l e) := by
  unfold State.derive
  split
  · exact .refl s
  · split
    · exact .modSession fun x => x.apartFromRung_moveTo _
    · exact .refl s

theorem State.deriveAll_onlyRungs (s : State) (i : SessionIx) : OnlyRungs s (s.deriveAll i) :=
  .foldl _ (fun t e => t.derive_onlyRungs i e) _ s

theorem State.moveRung_onlyRungs (s : State) (i : SessionIx) (k : Nat) : OnlyRungs s (s.moveRung i k) := by
  unfold State.moveRung
  split
  · exact .refl s
  · exact (OnlyRungs.modSession fun x => x.apartFromRung_moveTo k).trans (State.deriveAll_onlyRungs _ i)

theorem State.applyVerdict_onlyRungs (s : State) (i : SessionIx) (v : Nat) : OnlyRungs s (s.applyVerdict i v) := by
  unfold State.applyVerdict
  split
  · exact .refl s
  · exact (s.moveRung_onlyRungs i v).trans (.modSession fun x => x.apartFromRung_restartUpHold _)

theorem State.judge_onlyRungs (s : State) (a : SessionIx) : OnlyRungs s (s.judge a) := s.applyVerdict_onlyRungs _ _

theorem State.toFallback_onlyRungs (s : State) (i : SessionIx) : OnlyRungs s (s.toFallback i) :=
  ((OnlyRungs.modSession fun x => x.apartFromRung_moveTo x.fallbackRung).trans (State.deriveAll_onlyRungs _ i)).trans
    (.modSession fun x => x.apartFromRung_restartUpHold _)

end

/-! What a judgement reads. -/

/-- The record with the miss run and the statistics cleared, which no judgement reads. -/
def Session.judging (x : Session) : Session := { x with missRun := 0, stats := {} }

/-- Two states that a judgement cannot tell apart. -/
structure Alike (s t : State) : Prop where
  time : t.time = s.time
  records : ∀ i, (t.session i).judging = (s.session i).judging

section
variable {s t : State} (h : Alike s t)

include h

/-- A reading of a record that leaves its miss run and statistics aside. -/
theorem Alike.reads {α : Type} (F : Session → α) (aside : ∀ x, F x = F x.judging) (i : SessionIx) :
    F (t.session i) = F (s.session i) := by
  rw [aside (t.session i), h.records i, ← aside]

theorem Alike.members (i : SessionIx) : t.members i = s.members i := by
  simp only [State.members, h.reads Session.followers fun _ => rfl]

theorem Alike.streamingMembers (i : SessionIx) : t.streamingMembers i = s.streamingMembers i := by
  simp only [State.streamingMembers, h.reads Session.followers fun _ => rfl, h.reads Session.isStreaming fun _ => rfl]

theorem Alike.zoneLevel (i : SessionIx) : t.zoneLevel i = s.zoneLevel i := by
  have level : ∀ j, (t.session j).level t.time = (s.session j).level s.time := fun j =>
    h.time ▸ h.reads (fun x => x.level t.time) (fun _ => rfl) j
  simp only [State.zoneLevel, h.streamingMembers, level]

theorem Alike.anyStalled (i : SessionIx) : t.anyStalled i = s.anyStalled i := by
  rw [State.anyStalled, State.anyStalled, h.members]
  exact congrArg (List.any _) (funext (h.reads (fun x => decide (x.buffer.playback = .stalled)) fun _ => rfl))

theorem Alike.anyNotFresh (i : SessionIx) : t.anyNotFresh i = s.anyNotFresh i := by
  rw [State.anyNotFresh, State.anyNotFresh, h.members]
  exact congrArg (List.any _) (funext (h.reads (fun x => decide (x.buffer.freshness ≠ .fresh)) fun _ => rfl))

theorem Alike.zone (i : SessionIx) : t.zone i = s.zone i := by
  simp only [State.zone, h.reads Session.eff fun _ => rfl, h.anyStalled, h.zoneLevel]

theorem Alike.followerNeed (k : Nat) (e : FollowerEntry) : t.followerNeed k e = s.followerNeed k e :=
  h.reads (fun f => if f.isStreaming then f.rungNeed (f.mappedRung e k) else 0) (fun _ => rfl) e.index

theorem Alike.combinedNeed (i : SessionIx) (k : Nat) : t.combinedNeed i k = s.combinedNeed i k := by
  have need : t.followerNeed k = s.followerNeed k := funext (h.followerNeed k)
  rw [State.combinedNeed, State.combinedNeed, h.reads (fun x => x.rungNeed k) fun _ => rfl, h.reads Session.followers fun _ => rfl,
    need]

theorem Alike.rateCandidate (i : SessionIx) (z : Zone) : t.rateCandidate i z = s.rateCandidate i z := by
  have needs : t.combinedNeed i = s.combinedNeed i := funext (h.combinedNeed i)
  unfold State.rateCandidate
  rw [needs]
  exact h.reads (fun x => x.ladder.highestAllowed x.ceiling x.draw.cap fun k =>
    decide (s.combinedNeed i k ≤ x.usableRate * z.factor / 16)) (fun _ => rfl) i

theorem Alike.verdict (i : SessionIx) : t.verdict i = s.verdict i := by
  have zoned : ∀ z r, t.zoneVerdict i z r = s.zoneVerdict i z r := fun z r => by
    simp only [State.zoneVerdict, h.rateCandidate, h.combinedNeed, h.reads Session.ladder fun _ => rfl,
      h.reads (fun x => x.oneUp r) fun _ => rfl, h.reads Session.usableRate fun _ => rfl]
  simp only [State.verdict, h.anyNotFresh, h.zone, zoned, h.reads Session.fallbackRung fun _ => rfl,
    h.reads Session.rung fun _ => rfl, h.reads Session.ladder fun _ => rfl]

theorem Alike.judged (a : SessionIx) : t.judged a = s.judged a := by
  unfold State.judged
  rw [h.reads Session.role fun _ => rfl]
  split
  · rfl
  · rfl
  · rw [h.reads Session.isStreaming fun _ => rfl]

end

/-! A judgement of states alike leaves them alike. -/

section
variable {s t : State}

theorem Alike.modSession (h : Alike s t) (i : SessionIx) {f : Session → Session}
    (aside : ∀ x y : Session, y.judging = x.judging → (f y).judging = (f x).judging) :
    Alike (s.modSession i f) (t.modSession i f) := by
  refine ⟨h.time, fun j => ?_⟩
  rw [State.modSession_session, State.modSession_session]
  split
  · exact aside _ _ (h.records j)
  · exact h.records j

theorem Session.judging_moveTo (k : Nat) (x y : Session) (h : y.judging = x.judging) : (y.moveTo k).judging = (x.moveTo k).judging := by
  rw [Session.moveTo_eq, Session.moveTo_eq]
  exact congrArg (fun z : Session => { z with rung := some k }) h

theorem Session.judging_restartUpHold (now : Time) (x y : Session) (h : y.judging = x.judging) :
    (y.restartUpHold now).judging = (x.restartUpHold now).judging := by
  have reads : ∀ z : Session, (z.restartUpHold now).judging = z.judging.restartUpHold now := fun z => by
    unfold Session.restartUpHold Session.judging
    cases z.profile <;> rfl
  rw [reads, reads, h]

theorem Alike.derive (h : Alike s t) (i : SessionIx) (e : FollowerEntry) : Alike (s.derive i e) (t.derive i e) := by
  unfold State.derive
  rw [h.reads Session.rung fun _ => rfl, h.reads Session.isStreaming fun _ => rfl]
  split
  · exact h
  · next k _ =>
    split
    · refine h.modSession e.index fun x y same => ?_
      have mapped : y.mappedRung e k = x.mappedRung e k := (congrArg (fun z : Session => z.mappedRung e k) same :)
      rw [mapped]
      exact Session.judging_moveTo _ x y same
    · exact h

theorem Alike.deriveAll (h : Alike s t) (i : SessionIx) : Alike (s.deriveAll i) (t.deriveAll i) := by
  have fold : ∀ (es : List FollowerEntry) (s t : State), Alike s t →
      Alike (es.foldl (fun u e => u.derive i e) s) (es.foldl (fun u e => u.derive i e) t) := by
    intro es
    induction es with
    | nil => exact fun _ _ h => h
    | cons e es ih => exact fun s t h => ih _ _ (h.derive i e)
  unfold State.deriveAll
  rw [h.reads Session.followers fun _ => rfl]
  exact fold _ _ _ h

theorem Alike.judge (h : Alike s t) (a : SessionIx) : Alike (s.judge a) (t.judge a) := by
  have applied : ∀ i v, Alike (s.applyVerdict i v) (t.applyVerdict i v) := fun i v => by
    unfold State.applyVerdict State.moveRung
    rw [h.reads Session.rung fun _ => rfl, h.time]
    split
    · exact h
    · exact ((h.modSession i (Session.judging_moveTo v)).deriveAll i).modSession i (Session.judging_restartUpHold _)
  unfold State.judge
  simp only [h.judged, h.verdict, h.reads Session.fallbackRung fun _ => rfl]
  exact applied _ _

end

/-! The passing of a deadline (R119, R120). -/

section
variable {s : State} {k : SlotIx} {x : Slot}

theorem exec_deadline_free (released : s.resetAsserted = false) (free : s.slot k = none) : exec (.deadline k) s = .next s := by
  simp only [exec, execDeadline, State.unlessReset_of_released released, free]

theorem exec_deadline_slot (released : s.resetAsserted = false) (held : s.slot k = some x) : exec (.deadline k) s = .next
    (if x.deadlineReached s.time then settle s (s.missDeadline k x) else s) := by
  simp only [exec, execDeadline, State.unlessReset_of_released released, held]

/-- The slot marked and the miss counted on the holder and on the session (R119 steps 1 to 3). -/
def State.missCounted (s : State) (k : SlotIx) (x : Slot) : State :=
  ((s.setSlot k (some { x with missed := true })).modSession (s.missHolder x.session) fun y =>
    { y with missRun := y.missRun + 1 }).modSession x.session fun y =>
    { y with stats := { y.stats with deadlineMisses := y.stats.deadlineMisses + 1 } }

/-- The judgement, the ADVISORY and the cause that follow (R119 steps 4 to 6). -/
def State.missTold (s : State) (k : SlotIx) (x : Slot) : State :=
  (((s.missCounted k x).judge x.session).advise x.session x.tag).raiseOn x.session .deadlineMiss

theorem State.missDeadline_eq (s : State) (k : SlotIx) (x : Slot) : s.missDeadline k x =
    if ((s.missTold k x).session (s.missHolder x.session)).stallThreshold ≤
        ((s.missTold k x).session (s.missHolder x.session)).missRun then
      (s.missTold k x).resync (s.missHolder x.session) x.session
    else s.missTold k x := rfl

theorem State.missCounted_alike (s : State) (k : SlotIx) (x : Slot) : Alike s (s.missCounted k x) := by
  refine ⟨rfl, fun j => ?_⟩
  unfold State.missCounted
  rw [State.modSession_session, State.modSession_session, State.setSlot_session]
  split
  · split <;> rfl
  · split <;> rfl

theorem State.missCounted_session (s : State) (k : SlotIx) (x : Slot) (j : SessionIx) : (s.missCounted k x).session j =
    { s.session j with
      missRun := if j = s.missHolder x.session then (s.session j).missRun + 1 else (s.session j).missRun
      stats := { (s.session j).stats with
        deadlineMisses := if j = x.session then (s.session j).stats.deadlineMisses + 1 else (s.session j).stats.deadlineMisses } } := by
  unfold State.missCounted
  rw [State.modSession_session, State.modSession_session, State.setSlot_session]
  split
  · split <;> rfl
  · split <;> rfl

theorem State.advise_apart (s : State) (i : SessionIx) (tag : Byte) : (s.advise i tag).apartFromReports = s.apartFromReports :=
  s.originate_apart _

theorem State.session_of_apart {s t : State} (h : t.apartFromReports = s.apartFromReports) (j : SessionIx) :
    t.session j = s.session j := (congrArg (fun u : State => u.session j) h :)

theorem State.missTold_session (s : State) (k : SlotIx) (x : Slot) (j : SessionIx) : (s.missTold k x).session j =
    { ((s.missCounted k x).judge x.session).session j with
      causes := if j = x.session then (((s.missCounted k x).judge x.session).session j).causes ||| Cause.deadlineMiss.bit
                else (((s.missCounted k x).judge x.session).session j).causes } := by
  unfold State.missTold State.raiseOn
  rw [State.modSession_session, State.session_of_apart (State.advise_apart _ _ _)]
  split <;> rfl

/-- The slot table behind a missed deadline: the slot is marked, the others stay. -/
theorem State.missDeadline_slot (s : State) (k : SlotIx) (x : Slot) (m : SlotIx) :
    (s.missDeadline k x).slot m = (s.setSlot k (some { x with missed := true })).slot m := by
  have judged : RecordsOnly (s.setSlot k (some { x with missed := true })) ((s.missCounted k x).judge x.session) :=
    ((State.modSession_records _ _ _).trans (State.modSession_records _ _ _)).trans (State.judge_records _ _)
  have told : (s.missTold k x).slot m = (s.setSlot k (some { x with missed := true })).slot m := by
    have advised := (congrArg (fun u : State => u.slot m) (State.advise_apart ((s.missCounted k x).judge x.session) x.session x.tag) :)
    refine advised.trans ?_
    rw [judged]
    rfl
  rw [State.missDeadline_eq]
  split
  · rw [State.resync_records]
    exact told
  · exact told

end

end Sys2Proof.Machine

/-! SUPPORT. The resync of a holder, and what stays of an ADVISORY once queued (R100, R119, R120, R160); O47. -/

namespace Sys2Proof.Machine

theorem CauseSet.has_or (p q : CauseSet) (c : Cause) : CauseSet.has (p ||| q) c = (p.has c || q.has c) := by
  simp only [CauseSet.has, BitVec.getLsbD_or]

theorem Cause.has_bit (c : Cause) : CauseSet.has c.bit c = true := by cases c <;> decide

/-- A note the part queued of its own accord stays in a frame of such notes. -/
theorem Originated.keeps_note {q r : List ReportFrame} {n : OutNote} (h : Originated q r)
    (queued : ∃ f ∈ q, f.isReply = false ∧ n ∈ f.notes) : ∃ f ∈ r, f.isReply = false ∧ n ∈ f.notes := by
  induction h with
  | refl => exact queued
  | tail _ step ih =>
    obtain ⟨f, hf, own, hn⟩ := ih
    cases step with
    | begins q g => exact ⟨f, List.mem_append_left _ hf, own, hn⟩
    | joins q g m =>
      rcases List.mem_append.mp hf with before | last
      · exact ⟨f, List.mem_append_left _ before, own, hn⟩
      · obtain rfl := List.mem_singleton.mp last
        exact ⟨{ f with notes := f.notes ++ [m] }, List.mem_append_right _ (List.mem_singleton_self _), own,
          List.mem_append_left _ hn⟩

/-! A session's record behind a resync (R45, R100, R120). -/

section
variable {s : State} {holder trigger : SessionIx}

/-- The session whose rung a resync returns. -/
def State.resyncTarget (s : State) (holder trigger : SessionIx) : SessionIx :=
  if (s.session holder).isStreaming then holder else trigger

/-- The state before a resync returns the rung. -/
def State.forgotten (s : State) (holder : SessionIx) : State := s.modSession holder fun x => { x with estimates := none }

theorem State.resync_session (s : State) (holder trigger j : SessionIx) : (s.resync holder trigger).session j =
    { ((s.forgotten holder).toFallback (s.resyncTarget holder trigger)).session j with
      missRun := if j = holder then 0
        else (((s.forgotten holder).toFallback (s.resyncTarget holder trigger)).session j).missRun
      causes := if j = holder then
          (((s.forgotten holder).toFallback (s.resyncTarget holder trigger)).session j).causes ||| Cause.resync.bit
        else (((s.forgotten holder).toFallback (s.resyncTarget holder trigger)).session j).causes } := by
  have returned : (if (s.session holder).isStreaming then (s.forgotten holder).toFallback holder
      else (s.forgotten holder).toFallback trigger) = (s.forgotten holder).toFallback (s.resyncTarget holder trigger) := by
    unfold State.resyncTarget
    split <;> rfl
  have unfolded : s.resync holder trigger = (((s.forgotten holder).toFallback (s.resyncTarget holder trigger)).modSession holder
      fun x => { x with missRun := 0 }).raiseOn holder .resync := by
    rw [← returned]
    rfl
  rw [unfolded, State.raiseOn, State.modSession_modSession, State.modSession_session]
  split <;> rfl

theorem State.forgotten_session (s : State) (holder j : SessionIx) : (s.forgotten holder).session j =
    { s.session j with estimates := if j = holder then none else (s.session j).estimates } := by
  unfold State.forgotten
  rw [State.modSession_session]
  split <;> rfl

/-- A return to the fallback rung: the rung, the up-hold, and the followers derived (R100). -/
theorem State.toFallback_derived {i : SessionIx} {p : Profile} (profile : (s.session i).profile = some p)
    (distinct : ((s.session i).followers.map FollowerEntry.index).Nodup) (apart : ∀ e ∈ (s.session i).followers, e.index ≠ i) :
    DerivedFrom (s.modSession i fun x => { x.withRung x.fallbackRung with upHold := p.upHoldFrom s.time }) (s.toFallback i)
      (s.session i).followers (s.session i).fallbackRung := by
  have moved : (s.modSession i fun x => x.moveTo x.fallbackRung) = s.modSession i fun x => x.withRung x.fallbackRung :=
    State.modSession_congr (Session.moveTo_eq _ _)
  have record : (s.modSession i fun x => x.withRung x.fallbackRung).session i =
      (s.session i).withRung (s.session i).fallbackRung := State.modSession_session_self _ _ _
  have followers : ((s.modSession i fun x => x.withRung x.fallbackRung).session i).followers = (s.session i).followers := by
    rw [record]
    rfl
  have rung : ((s.modSession i fun x => x.withRung x.fallbackRung).session i).rung = some (s.session i).fallbackRung := by
    rw [record]
    rfl
  have derived := (State.deriveAll_derived rung (followers.symm ▸ distinct) (followers.symm ▸ apart)).modSession
    (followers.symm ▸ apart) fun x => x.restartUpHold s.time
  rw [State.modSession_modSession, followers] at derived
  have held : (s.modSession i fun x => (x.withRung x.fallbackRung).restartUpHold s.time) =
      s.modSession i fun x => { x.withRung x.fallbackRung with upHold := p.upHoldFrom s.time } :=
    State.modSession_congr (Session.restartUpHold_eq (p := p) (by exact profile) s.time)
  rw [held] at derived
  rw [State.toFallback, moved]
  exact derived

end

section
variable {s : State} {holder trigger : SessionIx} {p : Profile}

/-- A resync moves only what its return to the fallback moves of rungs and up-holds. -/
theorem State.resync_rung (j : SessionIx) :
    ((s.resync holder trigger).session j).rung =
      (((s.forgotten holder).toFallback (s.resyncTarget holder trigger)).session j).rung ∧
    ((s.resync holder trigger).session j).upHold =
      (((s.forgotten holder).toFallback (s.resyncTarget holder trigger)).session j).upHold := by
  rw [State.resync_session]
  exact ⟨rfl, rfl⟩

/-- What the holder of the miss run loses in a resync, and that RESYNC is raised on it (R45, R120). -/
theorem State.resync_holder : ((s.resync holder trigger).session holder).missRun = 0 ∧
    ((s.resync holder trigger).session holder).estimates = none ∧
    ((s.resync holder trigger).session holder).causes.has .resync = true := by
  have estimates : (((s.forgotten holder).toFallback (s.resyncTarget holder trigger)).session holder).estimates = none := by
    rw [(State.toFallback_onlyRungs _ _).keeps Session.estimates fun _ => rfl, State.forgotten_session]
    exact if_pos rfl
  rw [State.resync_session]
  refine ⟨if_pos rfl, estimates, ?_⟩
  simp only [if_true, CauseSet.has_or, Cause.has_bit, Bool.or_true]

theorem State.forgotten_reads {α : Type} (F : Session → α) (aside : ∀ y, F y = F { y with estimates := none }) (j : SessionIx) :
    F ((s.forgotten holder).session j) = F (s.session j) := by
  rw [State.forgotten_session, aside, ← aside (s.session j)]

/-- The fallback of a holder that is STREAMING: its rung and up-hold, and its followers derived (R100). -/
theorem State.resync_of_streaming (on : (s.session holder).admin = .streaming) (profile : (s.session holder).profile = some p)
    (distinct : ((s.session holder).followers.map FollowerEntry.index).Nodup)
    (apart : ∀ f ∈ (s.session holder).followers, f.index ≠ holder) :
    ((s.resync holder trigger).session holder).rung = some (s.session holder).fallbackRung ∧
    ((s.resync holder trigger).session holder).upHold = p.upHoldFrom s.time ∧
    ∀ f ∈ (s.session holder).followers, ∀ (l : Ladder) (g : Effective) (low : Nat),
      (s.session f.index).admin = .streaming → (s.session f.index).published = some l →
      (s.session f.index).eff = some g → l.IsLowest low →
      ∃ j, ((s.resync holder trigger).session f.index).rung = some j ∧
        IsHighest l.rungs.length (fun v => l.Allows low g.ceiling none v ∧
          v ≤ (f.map[(s.session holder).fallbackRung]?).getD 0) low j := by
  have target : s.resyncTarget holder trigger = holder := if_pos (by simp [Session.isStreaming, on])
  have followers : ((s.forgotten holder).session holder).followers = (s.session holder).followers :=
    State.forgotten_reads Session.followers (fun _ => rfl) holder
  have fallback : ((s.forgotten holder).session holder).fallbackRung = (s.session holder).fallbackRung :=
    State.forgotten_reads Session.fallbackRung (fun _ => rfl) holder
  have derived := State.toFallback_derived (s := s.forgotten holder) (i := holder) (p := p)
    ((State.forgotten_reads Session.profile (fun _ => rfl) holder).trans profile) (followers.symm ▸ distinct)
    (followers.symm ▸ apart)
  rw [followers, fallback] at derived
  have own := derived.others holder apart
  rw [State.modSession_session_self] at own
  refine ⟨?_, ?_, fun f hf l g low streaming published eff lowest => ?_⟩
  · rw [(State.resync_rung _).1, target, own, ← fallback]
    rfl
  · rw [(State.resync_rung _).2, target, own]
    rfl
  · obtain ⟨-, -, listed⟩ := derived.followersDerived
    have record := State.modSession_session_ne (s.forgotten holder) holder f.index
      (fun x => { x.withRung x.fallbackRung with upHold := p.upHoldFrom (s.forgotten holder).time }) (apart f hf)
    obtain ⟨-, further⟩ := listed f hf
    obtain ⟨j, highest, derivedRecord⟩ := further l g low
      (by rw [record, State.forgotten_reads Session.admin fun _ => rfl]; exact streaming)
      (by rw [record, State.forgotten_reads Session.published fun _ => rfl]; exact published)
      (by rw [record, State.forgotten_reads Session.eff fun _ => rfl]; exact eff) lowest
    refine ⟨j, ?_, highest⟩
    rw [(State.resync_rung _).1, target, derivedRecord]
    rfl

/-- A follower of a leader that is not STREAMING returns to its own fallback (R100, R120). -/
theorem State.resync_of_still (off : (s.session holder).admin ≠ .streaming) (follows : (s.session trigger).role = .follower holder)
    (profile : (s.session trigger).profile = some p) :
    ((s.resync holder trigger).session trigger).rung = some (s.session trigger).fallbackRung ∧
    ((s.resync holder trigger).session trigger).upHold = p.upHoldFrom s.time := by
  have target : s.resyncTarget holder trigger = trigger := if_neg (by simpa [Session.isStreaming] using off)
  have alone : ((s.forgotten holder).session trigger).followers = [] := by
    rw [State.forgotten_reads Session.followers fun _ => rfl, Session.followers, follows]
  have fallback : ((s.forgotten holder).session trigger).fallbackRung = (s.session trigger).fallbackRung :=
    State.forgotten_reads Session.fallbackRung (fun _ => rfl) trigger
  have derived := State.toFallback_derived (s := s.forgotten holder) (i := trigger) (p := p)
    ((State.forgotten_reads Session.profile (fun _ => rfl) trigger).trans profile) (by rw [alone]; exact List.nodup_nil)
    (by rw [alone]; exact nofun)
  rw [alone] at derived
  have own := derived.others trigger nofun
  rw [State.modSession_session_self] at own
  refine ⟨?_, ?_⟩
  · rw [(State.resync_rung _).1, target, own, ← fallback]
    rfl
  · rw [(State.resync_rung _).2, target, own]
    rfl

end

/-! What a missed deadline leaves and sets, record by record. -/

section
variable {s : State} {k : SlotIx} {x : Slot} {holder j : SessionIx} {p q : Profile}

/-- The record with everything cleared that a missed deadline sets before its resync. -/
def Session.apartFromMiss (x : Session) : Session :=
  { x with rung := none, upHold := none, missRun := 0, causes := 0
           stats := { x.stats with rungMovesUp := 0, rungMovesDown := 0, deadlineMisses := 0 } }

theorem State.missTold_apart (s : State) (k : SlotIx) (x : Slot) (j : SessionIx) :
    ((s.missTold k x).session j).apartFromMiss = (s.session j).apartFromMiss := by
  have judged : (((s.missCounted k x).judge x.session).session j).apartFromMiss = ((s.missCounted k x).session j).apartFromMiss :=
    (State.judge_onlyRungs (s.missCounted k x) x.session).keeps Session.apartFromMiss (fun _ => rfl) j
  rw [State.missTold_session]
  refine Eq.trans ?_ (judged.trans ?_)
  · rfl
  · rw [State.missCounted_session]
    rfl

/-- A reading that a missed deadline leaves. -/
theorem State.missTold_reads {α : Type} (F : Session → α) (apart : ∀ y, F y = F y.apartFromMiss) (j : SessionIx) :
    F ((s.missTold k x).session j) = F (s.session j) := by
  rw [apart, State.missTold_apart, ← apart]

theorem State.missTold_counts (j : SessionIx) :
    ((s.missTold k x).session j).missRun = (if j = s.missHolder x.session then (s.session j).missRun + 1 else (s.session j).missRun) ∧
      ((s.missTold k x).session j).stats.deadlineMisses =
        (if j = x.session then (s.session j).stats.deadlineMisses + 1 else (s.session j).stats.deadlineMisses) := by
  have judged := State.judge_onlyRungs (s.missCounted k x) x.session
  rw [State.missTold_session]
  refine ⟨?_, ?_⟩
  · refine (judged.keeps Session.missRun (fun _ => rfl) j).trans ?_
    rw [State.missCounted_session]
  · refine (judged.keeps (fun y => y.stats.deadlineMisses) (fun _ => rfl) j).trans ?_
    rw [State.missCounted_session]

theorem State.missTold_time (s : State) (k : SlotIx) (x : Slot) : (s.missTold k x).time = s.time := by
  have advised := (congrArg State.time (State.advise_apart ((s.missCounted k x).judge x.session) x.session x.tag) :)
  refine advised.trans ?_
  rw [State.judge_records]
  rfl

/-- A missed deadline moves rungs and up-holds as its judgement alone does. -/
theorem State.missTold_rung (j : SessionIx) : ((s.missTold k x).session j).rung = ((s.judge x.session).session j).rung ∧
    ((s.missTold k x).session j).upHold = ((s.judge x.session).session j).upHold := by
  have alike := (s.missCounted_alike k x).judge x.session
  rw [State.missTold_session]
  exact ⟨alike.reads Session.rung (fun _ => rfl) j, alike.reads Session.upHold (fun _ => rfl) j⟩

/-- The resync is reached when the miss run meets the stall threshold, 0 acting as 1 (R119). -/
theorem State.missDeadline_reaches (profile : (s.session (s.missHolder x.session)).profile = some p) : s.missDeadline k x =
    if max 1 p.stallThreshold ≤ (s.session (s.missHolder x.session)).missRun + 1 then
      (s.missTold k x).resync (s.missHolder x.session) x.session
    else s.missTold k x := by
  have threshold : ((s.missTold k x).session (s.missHolder x.session)).stallThreshold = max 1 p.stallThreshold := by
    rw [State.missTold_reads Session.stallThreshold fun _ => rfl]
    simp [Session.stallThreshold, profile]
  rw [State.missDeadline_eq, threshold, (State.missTold_counts _).1, if_pos rfl]

/-- Every cause raised on a record stays on it through a resync. -/
theorem State.resync_causes {s : State} {holder trigger j : SessionIx} {c : Cause} (raised : (s.session j).causes.has c = true) :
    ((s.resync holder trigger).session j).causes.has c = true := by
  have kept : (((s.forgotten holder).toFallback (s.resyncTarget holder trigger)).session j).causes = (s.session j).causes := by
    rw [(State.toFallback_onlyRungs _ _).keeps Session.causes fun _ => rfl, State.forgotten_session]
  rw [State.resync_session]
  simp only [kept]
  split
  · rw [CauseSet.has_or, raised]
    rfl
  · exact raised

theorem State.resync_misses {s : State} {holder trigger j : SessionIx} :
    ((s.resync holder trigger).session j).stats.deadlineMisses = (s.session j).stats.deadlineMisses := by
  have kept : (((s.forgotten holder).toFallback (s.resyncTarget holder trigger)).session j).stats.deadlineMisses =
      (s.session j).stats.deadlineMisses := by
    rw [(State.toFallback_onlyRungs _ _).keeps (fun y => y.stats.deadlineMisses) fun _ => rfl, State.forgotten_session]
  rw [State.resync_session]
  exact kept

theorem State.missTold_causes (s : State) (k : SlotIx) (x : Slot) :
    ((s.missTold k x).session x.session).causes.has .deadlineMiss = true := by
  rw [State.missTold_session, if_pos rfl, CauseSet.has_or, Cause.has_bit, Bool.or_true]

/-- The ADVISORY of a missed deadline is queued, where a player address is held and the report queue has room (R119). -/
theorem State.advise_queued {s : State} {i : SessionIx} {tag : Byte} (claimed : s.control.claim ≠ none)
    (room : s.path.reportQueue.length < 8) : ∃ f ∈ (s.advise i tag).path.reportQueue, f.isReply = false ∧ OutNote.advisory
      { session := i, tag := tag, rung := (s.session i).rung.getD 0
        bitrate := (s.session i).ladder.bitrate ((s.session i).rung.getD 0), generation := (s.session i).generation } ∈ f.notes := by
  obtain ⟨-, -, f, last, own, note⟩ := State.originate_sent claimed room (.advisory
    { session := i, tag := tag, rung := (s.session i).rung.getD 0
      bitrate := (s.session i).ladder.bitrate ((s.session i).rung.getD 0), generation := (s.session i).generation })
  exact ⟨f, List.mem_of_getLast? last, own, List.mem_of_getLast? note⟩

/-- The ADVISORY of a passed deadline names the rung that its judgement left (R119 step 5). -/
theorem State.missTold_advises {c : Claim} {lad : Ladder} {r : Nat} (claim : s.control.claim = some c)
    (room : s.path.reportQueue.length < 8) (published : (s.session x.session).published = some lad)
    (rung : ((s.judge x.session).session x.session).rung = some r) :
    ∃ f ∈ (s.missTold k x).path.reportQueue, f.isReply = false ∧ OutNote.advisory
      { session := x.session, tag := x.tag, rung := r, bitrate := lad.bitrate r,
        generation := (s.session x.session).generation } ∈ f.notes := by
  obtain ⟨v, hv⟩ : ∃ v, v = (s.missCounted k x).judge x.session := ⟨_, rfl⟩
  have records : RecordsOnly (s.setSlot k (some { x with missed := true })) v :=
    hv ▸ ((State.modSession_records _ _ _).trans (State.modSession_records _ _ _)).trans (State.judge_records _ _)
  have judged := State.judge_onlyRungs (s.missCounted k x) x.session
  have alike := (s.missCounted_alike k x).judge x.session
  rw [← hv] at judged alike
  have ladder : (v.session x.session).ladder = lad := by
    rw [judged.keeps Session.ladder fun _ => rfl, State.missCounted_session]
    exact Session.ladder_of_published published
  have generation : (v.session x.session).generation = (s.session x.session).generation := by
    rw [judged.keeps Session.generation fun _ => rfl, State.missCounted_session]
  have own : (v.session x.session).rung = some r := (alike.reads Session.rung (fun _ => rfl) x.session).trans rung
  have queued := State.advise_queued (s := v) (i := x.session) (tag := x.tag) (by rw [records]; exact claim ▸ nofun)
    (by rw [records]; exact room)
  rw [ladder, generation, own] at queued
  rw [hv] at queued
  exact queued

end

/-- Settles O47: the mark and the counts, the judgement's moves, the ADVISORY, and the resync at the threshold. -/
theorem deadlinePasses : Obligations.DeadlinePasses := by
  intro s k released
  refine ⟨exec_deadline_free released, fun x held => ⟨fun idle => ?_, ?_⟩⟩
  · rw [exec_deadline_slot released held, if_neg]
    rw [Slot.deadlineReached, Bool.and_eq_true]
    rintro ⟨pending, due⟩
    rcases idle with missed | ahead
    · simp [missed] at pending
    · rw [timerReached_eq_false ahead] at due
      cases due
  intro d holder p q pending deadline due streaming hq role hp
  have reached : x.deadlineReached s.time = true := by
    simp [Slot.deadlineReached, pending, timerReached_eq_true deadline due]
  obtain rfl : s.missHolder x.session = holder := State.missHolder_eq_iff.mpr role
  obtain ⟨u, hu⟩ : ∃ u, u = s.missDeadline k x := ⟨_, rfl⟩
  have session : ∀ j, (settle s u).session j = u.session j := State.session_of_apart (settle_apart s u)
  have table : ∀ m, (settle s u).slot m = (s.setSlot k (some { x with missed := true })).slot m := fun m =>
    ((congrArg (fun v : State => v.slot m) (settle_apart s u) :)).trans (hu ▸ s.missDeadline_slot k x m)
  have reaches := State.missDeadline_reaches (k := k) (x := x) hp
  rw [← hu] at reaches
  refine ⟨settle s u, by rw [exec_deadline_slot released held, if_pos reached, hu], ?_, fun m hm => ?_, ?_, ?_, fun below => ?_,
    fun meets => ?_, fun c lad r claim room published rung => ?_⟩
  · exact (table k).trans (State.setSlot_slot_self _ _ _)
  · exact (table m).trans (State.setSlot_slot_ne _ _ _ _ hm)
  · rw [session, hu, State.missDeadline_eq]
    split
    · rw [State.resync_misses, (State.missTold_counts _).2, if_pos rfl]
    · rw [(State.missTold_counts _).2, if_pos rfl]
  · rw [session, hu, State.missDeadline_eq]
    split
    · exact State.resync_causes (State.missTold_causes s k x)
    · exact State.missTold_causes s k x
  · rw [if_neg (by omega)] at reaches
    refine ⟨?_, ?_, fun j => ?_⟩
    · rw [session, reaches, (State.missTold_counts _).1, if_pos rfl]
    · rw [session, reaches, State.missTold_reads Session.estimates fun _ => rfl]
    · rw [session, reaches]
      exact State.missTold_rung j
  · rw [if_pos meets] at reaches
    obtain ⟨run, estimates, told⟩ := State.resync_holder (s := s.missTold k x) (holder := s.missHolder x.session)
      (trigger := x.session)
    have reads {α : Type} (F : Session → α) (apart : ∀ y, F y = F y.apartFromMiss) (j : SessionIx) :=
      State.missTold_reads (s := s) (k := k) (x := x) F apart j
    simp only [session]
    rw [reaches]
    refine ⟨run, estimates, told, fun on distinct apart => ?_, fun off => ?_⟩
    · have followers := reads Session.followers (fun _ => rfl) (s.missHolder x.session)
      obtain ⟨rung, upHold, listed⟩ := State.resync_of_streaming (s := s.missTold k x) (trigger := x.session) (p := p)
        ((reads Session.admin (fun _ => rfl) _).trans on) ((reads Session.profile (fun _ => rfl) _).trans hp)
        (followers.symm ▸ distinct) (followers.symm ▸ apart)
      rw [reads Session.fallbackRung fun _ => rfl] at rung
      rw [State.missTold_time] at upHold
      refine ⟨rung, upHold, fun f hf l g low running published eff lowest => ?_⟩
      obtain ⟨j, own, highest⟩ := listed f (followers.symm ▸ hf) l g low ((reads Session.admin (fun _ => rfl) _).trans running)
        ((reads Session.published (fun _ => rfl) _).trans published) ((reads Session.eff (fun _ => rfl) _).trans eff) lowest
      rw [reads Session.fallbackRung fun _ => rfl] at highest
      exact ⟨j, own, highest⟩
    · have follows : (s.session x.session).role = .follower (s.missHolder x.session) :=
        role.resolve_right fun itself => off ((congrArg (fun j => (s.session j).admin) itself.1).trans streaming)
      obtain ⟨rung, upHold⟩ := State.resync_of_still (s := s.missTold k x) (trigger := x.session) (p := q)
        (fun on => off ((reads Session.admin (fun _ => rfl) _).symm.trans on))
        ((reads Session.role (fun _ => rfl) _).trans follows) ((reads Session.profile (fun _ => rfl) _).trans hq)
      rw [reads Session.fallbackRung fun _ => rfl] at rung
      rw [State.missTold_time] at upHold
      exact ⟨rung, upHold⟩
  · refine (settle_queues u (QueuesKept.refl u) s).reports.keeps_note ?_
    have advised := State.missTold_advises (k := k) claim room published rung
    rw [hu, State.missDeadline_eq]
    split
    · rw [State.resync_records]
      exact advised
    · exact advised

end Sys2Proof.Machine

/-! SUPPORT. A publish: the ladder that passes the checks, and the rungs it starts or carries outside a follower (R20 to R31);
O32 and O33. -/

namespace Sys2Proof.Machine

/-! The checks of a publish that all pass (R24). -/

theorem Staging.validate_eq_ok {g : Staging} {l : Ladder} (count : g.count = some l.rungs.length)
    (fallback : g.fallback = some l.fallback) (rungs : ∀ k, k < l.rungs.length → g.rung? k = l.rungs[k]?)
    (passes : ∀ j, g.Passes j) : g.validate = .ok l := by
  have records : g.records? l.rungs.length = some l.rungs := by
    refine (mapM_eq_some_iff_map _ _ _).mpr (List.ext_getElem (by simp) fun k hk _ => ?_)
    have inside : k < l.rungs.length := by simpa using hk
    simpa [inside] using rungs k inside
  have ascends : ascending l.rungs = true := (Staging.passes_three_iff count records).mp (passes 3)
  have unskipped : l.rungs.all Rung.skip = false := (Staging.passes_four_iff count records).mp (passes 4)
  obtain ⟨f, held, usable⟩ := (Staging.passes_five_iff count records).mp (passes 5)
  obtain rfl : f = l.fallback := Option.some.inj (held.symm.trans fallback)
  simp only [Staging.validate, count, records, ascends, unskipped, fallback, usable, Bool.not_true, Bool.false_eq_true, if_false,
    if_true]

section
variable {s : State} {b : Batch} {n : LadderNote} {i : SessionIx} {g : Staging} {l : Ladder} {low : Nat}

/-- The state that a publishing LADDER LOAD leaves (R22 to R25). -/
def State.published (s : State) (i : SessionIx) (g : Staging) (l : Ladder) : State :=
  (s.modSession i fun x => { x with staging := g }).publish i l

theorem State.Publishes.noteDoes (h : s.Publishes b n i g l low)
    (admitted : (s.session i).admin = .primed ∨ (s.session i).admin = .streaming) :
    NoteDoes (.ladderLoad (some n)) s b (s.published i g l) 14 (acceptedCode n.clamped) none := by
  obtain ⟨hears, named, publish, whole, staged, count, fallback, rungs, passes, -⟩ := h
  have loaded : (s.modSession i fun x => { x with staging := x.staging.load n }) =
      s.modSession i fun x => { x with staging := g } := State.modSession_congr (by rw [staged])
  have valid : ((s.modSession i fun x => { x with staging := g }).session i).staging.validate = .ok l := by
    rw [State.modSession_session_self]
    exact Staging.validate_eq_ok count fallback rungs passes
  have result : s.ladderBody (some n) = (s.published i g l, Answer.done n.clamped) := by
    rw [State.ladderBody_of_publish named admitted publish whole, loaded]
    simp only [State.tryPublish, valid]
    rfl
  have work : GateWork s (s.published i g l) := (State.modSession_records s i _).gate.trans (State.publish_shares _ i l).gate
  refine hears.noteDoes (a := Answer.done n.clamped) ?_ work rfl
  rw [exec_ladderLoad hears, result]

end

/-! The rungs that a publish starts and carries, for a session that follows no other (R26 to R30). -/

theorem DerivedFrom.eq_of_nil {s t : State} {k : Nat} (h : DerivedFrom s t [] k) : t = s := by
  obtain ⟨records, others, -⟩ := h
  have same : t.sessions = s.sessions := State.sessions_ext fun j => others j nofun
  rw [records, same]

/-- The cap a republish carries (R27). -/
theorem remapCap_isHighest {l : Ladder} {low : Nat} (lowest : l.IsLowest low) (old : Ladder) (ceiling c : Nat) :
    IsHighest l.rungs.length (fun k => l.usable k = true ∧ k ≤ ceiling ∧ l.bitrate k ≤ old.bitrate c) low
      (remapCap old l ceiling c) := by
  rw [remapCap, lowest.lowest_eq]
  exact (getLast?_filter_range_isHighest _ _ low).congr fun j => by
    simp only [Bool.and_eq_true, decide_eq_true_eq, and_assoc]

/-- The rung a republish carries (R28). -/
theorem remapRung_isHighest {l : Ladder} {low : Nat} (lowest : l.IsLowest low) (old : Ladder) (ceiling : Nat) (cap : Option Nat)
    (r : Nat) : IsHighest l.rungs.length (fun k => l.Allows low ceiling cap k ∧ l.bitrate k ≤ old.bitrate r) low
      (remapRung old l ceiling cap r) :=
  (lowest.highestAllowed _).congr fun j => by rw [decide_eq_true_eq]

section
variable {s : State} {i : SessionIx} {g : Staging} {l old : Ladder} {p : Profile} {e : Effective} {r : Nat}

/-- The record that a publish stores before it moves a rung (R25). -/
def Session.storing (x : Session) (g : Staging) (l : Ladder) : Session :=
  { x with staging := g, published := some l, generation := x.generation + 1, admin := .streaming }

theorem State.published_of_free (free : ∀ m, (s.session i).role ≠ .follower m) : s.published i g l =
    (((if (s.session i).isStreaming then (s.modSession i fun x => x.storing g l).carryRungs i (s.session i).ladder
      else (s.modSession i fun x => x.storing g l).firstRung i).modSession i fun y => y.restartUpHold s.time).recompute) := by
  have stored : ((s.modSession i fun x => { x with staging := g }).modSession i fun y =>
      { y with published := some l, generation := y.generation + 1, admin := .streaming }) =
      s.modSession i fun x => x.storing g l := State.modSession_modSession _ _ _ _
  have role : ((s.modSession i fun x => x.storing g l).session i).role = (s.session i).role := by
    rw [State.modSession_session_self]
    rfl
  have unmapped : (s.modSession i fun x => x.storing g l).reformMap i = s.modSession i fun x => x.storing g l := by
    unfold State.reformMap
    rw [role]
    cases h : (s.session i).role with
    | independent => rfl
    | leader fs => rfl
    | follower m => exact absurd h (free m)
  have before : (s.modSession i fun x => { x with staging := g }).session i = { s.session i with staging := g } :=
    State.modSession_session_self _ _ _
  simp only [State.published, State.publish, stored, unmapped, before]
  rfl

theorem State.firstRung_of_free (free : ∀ m, (s.session i).role ≠ .follower m) : s.firstRung i =
    ((s.modSession i fun x => { x with rung := some x.ladder.lowest }).deriveAll i).modSession i fun x =>
      if x.draw.phase = .watching then x.enterSupervision s.time else x := by
  unfold State.firstRung
  cases h : (s.session i).role with
  | independent => rfl
  | leader fs => rfl
  | follower m => exact absurd h (free m)

theorem State.carryRungs_of_free (free : ∀ m, (s.session i).role ≠ .follower m) :
    s.carryRungs i old = (s.modSession i fun x => x.remapped old).deriveAll i := by
  unfold State.carryRungs
  cases h : (s.session i).role with
  | independent => rfl
  | leader fs => rfl
  | follower m => exact absurd h (free m)

/-- The first publish of a session that follows no other, with the followers it derives (R26, R104, R130). -/
theorem State.published_first (primed : (s.session i).admin = .primed) (free : ∀ m, (s.session i).role ≠ .follower m)
    (profile : (s.session i).profile = some p) (distinct : ((s.session i).followers.map FollowerEntry.index).Nodup)
    (apart : ∀ f ∈ (s.session i).followers, f.index ≠ i) : ∃ u, s.published i g l = u.recompute ∧
      DerivedFrom (s.modSession i fun x => { x with
        staging := g, published := some l, generation := x.generation + 1, admin := .streaming, rung := some l.lowest
        upHold := p.upHoldFrom s.time
        draw := if x.draw.phase = .watching then { x.draw with entryTime := some s.time, settled := false } else x.draw })
        u (s.session i).followers l.lowest := by
  have start : ((s.modSession i fun x => x.storing g l).modSession i fun x => { x with rung := some x.ladder.lowest }) =
      s.modSession i fun x => { x.storing g l with rung := some l.lowest } := State.modSession_modSession _ _ _ _
  have role : ((s.modSession i fun x => x.storing g l).session i).role = (s.session i).role := by
    rw [State.modSession_session_self]
    rfl
  have off : (s.session i).isStreaming = false := by simp [Session.isStreaming, primed]
  obtain ⟨v, hv⟩ : ∃ v, v = s.modSession i fun x => { x.storing g l with rung := some l.lowest } := ⟨_, rfl⟩
  have record : v.session i = { (s.session i).storing g l with rung := some l.lowest } := hv ▸ State.modSession_session_self _ _ _
  have followers : (v.session i).followers = (s.session i).followers := by rw [record]; rfl
  have derived := State.deriveAll_derived (s := v) (i := i) (k := l.lowest) (by rw [record]) (followers.symm ▸ distinct)
    (followers.symm ▸ apart)
  rw [followers] at derived
  have result := (derived.modSession apart fun x => if x.draw.phase = .watching then x.enterSupervision s.time else x).modSession
    apart fun y => y.restartUpHold s.time
  have base : ((v.modSession i fun x => if x.draw.phase = .watching then x.enterSupervision s.time else x).modSession i
      fun y => y.restartUpHold s.time) = s.modSession i fun x => { x with
        staging := g, published := some l, generation := x.generation + 1, admin := .streaming, rung := some l.lowest
        upHold := p.upHoldFrom s.time
        draw := if x.draw.phase = .watching then { x.draw with entryTime := some s.time, settled := false } else x.draw } := by
    rw [hv, State.modSession_modSession, State.modSession_modSession]
    refine State.modSession_congr ?_
    rw [Session.restartUpHold_eq (p := p) (by split <;> exact profile)]
    by_cases watching : (s.session i).draw.phase = .watching
    · simp only [Session.storing, Session.enterSupervision, watching, if_true]
    · simp only [Session.storing, watching, if_false]
  rw [base] at result
  refine ⟨_, ?_, result⟩
  rw [State.published_of_free free, off, if_neg Bool.false_ne_true, State.firstRung_of_free (role ▸ free), start, ← hv]
  rfl

/-- The republish of a session that follows no other, with the followers it derives again (R27, R28, R30). -/
theorem State.published_again (streaming : (s.session i).admin = .streaming) (free : ∀ m, (s.session i).role ≠ .follower m)
    (profile : (s.session i).profile = some p) (eff : (s.session i).eff = some e) (held : (s.session i).published = some old)
    (rung : (s.session i).rung = some r) (distinct : ((s.session i).followers.map FollowerEntry.index).Nodup)
    (apart : ∀ f ∈ (s.session i).followers, f.index ≠ i) {cap : Option Nat}
    (carried : (s.session i).draw.cap.map (remapCap old l e.ceiling) = cap) : ∃ u, s.published i g l = u.recompute ∧
      DerivedFrom (s.modSession i fun x => { x.withRung (remapRung old l e.ceiling cap r) with
        staging := g, published := some l, generation := x.generation + 1, upHold := p.upHoldFrom s.time, draw.cap := cap })
        u (s.session i).followers (remapRung old l e.ceiling cap r) := by
  have on : (s.session i).isStreaming = true := by simp [Session.isStreaming, streaming]
  have role : ((s.modSession i fun x => x.storing g l).session i).role = (s.session i).role := by
    rw [State.modSession_session_self]
    rfl
  have remapped : ((s.session i).storing g l).remapped old =
      { (s.session i).withRung (remapRung old l e.ceiling cap r) with
        staging := g, published := some l, generation := (s.session i).generation + 1, draw.cap := cap } := by
    have moving : ((s.session i).storing g l).rung = some r := rung
    have ladder : ((s.session i).storing g l).ladder = l := Session.ladder_of_published rfl
    have ceiling : ((s.session i).storing g l).ceiling = e.ceiling := Session.ceiling_of_eff eff
    have capped : ((s.session i).storing g l).draw.cap.map (remapCap old l e.ceiling) = cap := carried
    simp only [Session.remapped, moving, ladder, ceiling, capped, Session.moveTo_eq]
    simp only [Session.withRung, Session.storing, streaming, rung]
  have start : ((s.modSession i fun x => x.storing g l).modSession i fun x => x.remapped old) =
      s.modSession i fun x => { x.withRung (remapRung old l e.ceiling cap r) with
        staging := g, published := some l, generation := x.generation + 1, draw.cap := cap } :=
    (State.modSession_modSession _ _ _ _).trans (State.modSession_congr remapped)
  obtain ⟨v, hv⟩ : ∃ v, v = s.modSession i fun x => { x.withRung (remapRung old l e.ceiling cap r) with
        staging := g, published := some l, generation := x.generation + 1, draw.cap := cap } := ⟨_, rfl⟩
  have record : v.session i = { (s.session i).withRung (remapRung old l e.ceiling cap r) with
      staging := g, published := some l, generation := (s.session i).generation + 1, draw.cap := cap } :=
    hv ▸ State.modSession_session_self _ _ _
  have followers : (v.session i).followers = (s.session i).followers := by rw [record]; rfl
  have derived := State.deriveAll_derived (s := v) (i := i) (k := remapRung old l e.ceiling cap r) (by rw [record]; rfl)
    (followers.symm ▸ distinct) (followers.symm ▸ apart)
  rw [followers] at derived
  have result := derived.modSession apart fun y => y.restartUpHold s.time
  have base : (v.modSession i fun y => y.restartUpHold s.time) = s.modSession i fun x =>
      { x.withRung (remapRung old l e.ceiling cap r) with
        staging := g, published := some l, generation := x.generation + 1, upHold := p.upHoldFrom s.time, draw.cap := cap } := by
    rw [hv, State.modSession_modSession]
    refine State.modSession_congr ?_
    rw [Session.restartUpHold_eq (p := p) (by exact profile)]
  rw [base] at result
  refine ⟨_, ?_, result⟩
  rw [State.published_of_free free, on, if_pos rfl, State.carryRungs_of_free (role ▸ free),
    Session.ladder_of_published held, start, ← hv]

end

/-- The cap that a republish carries, by its test. -/
theorem remapCap_eq {l old : Ladder} {low ceiling : Nat} {held cap : Option Nat} (lowest : l.IsLowest low)
    (uncapped : held = none → cap = none)
    (capped : ∀ c, held = some c → ∃ d, cap = some d ∧
      IsHighest l.rungs.length (fun k => l.usable k = true ∧ k ≤ ceiling ∧ l.bitrate k ≤ old.bitrate c) low d) :
    held.map (remapCap old l ceiling) = cap := by
  cases h : held with
  | none => exact (uncapped h).symm
  | some c =>
    obtain ⟨d, rfl, highest⟩ := capped c h
    exact congrArg some ((remapCap_isHighest lowest old ceiling c).unique highest)

/-- Settles O32: the first publish of a session without followers. -/
theorem firstPublishStartsStreaming : Obligations.FirstPublishStartsStreaming := by
  intro s b n i g l p low hears named publish whole staged primed profile role _ count fallback rungs passes inside usable below
  have publishes : s.Publishes b n i g l low :=
    ⟨hears, named, publish, whole, staged, count, fallback, rungs, passes, inside, usable, below⟩
  have alone : (s.session i).followers = [] := by rw [Session.followers, role]
  obtain ⟨u, result, derived⟩ := State.published_first (g := g) (l := l) primed (by rw [role]; exact nofun) profile
    (by rw [alone]; exact List.nodup_nil) (by rw [alone]; exact nofun)
  rw [alone, publishes.lowest.lowest_eq] at derived
  rw [derived.eq_of_nil] at result
  have done := publishes.noteDoes (.inl primed)
  rw [result] at done
  exact done

/-- Settles O33: the republish of a session without followers. -/
theorem republishCarriesRungsByBitrate : Obligations.RepublishCarriesRungsByBitrate := by
  intro s b n i g l old p e r low new cap hears named publish whole staged streaming profile eff role held rung count fallback
    rungs passes inside usable below uncapped capped highest
  have publishes : s.Publishes b n i g l low :=
    ⟨hears, named, publish, whole, staged, count, fallback, rungs, passes, inside, usable, below⟩
  have carried := remapCap_eq publishes.lowest uncapped capped
  obtain rfl : remapRung old l e.ceiling cap r = new :=
    (remapRung_isHighest publishes.lowest old e.ceiling cap r).unique (highest.congr fun _ => by rw [Ladder.Allows, and_assoc])
  have alone : (s.session i).followers = [] := by rw [Session.followers, role]
  obtain ⟨u, result, derived⟩ := State.published_again (g := g) (l := l) streaming (by rw [role]; exact nofun) profile eff held
    rung (by rw [alone]; exact List.nodup_nil) (by rw [alone]; exact nofun) carried
  rw [alone] at derived
  rw [derived.eq_of_nil] at result
  have done := publishes.noteDoes (.inr streaming)
  rw [result] at done
  refine Eq.mp (congrArg (fun u : State => NoteDoes _ s b u.recompute 14 _ none) (State.modSession_congr ?_)) done
  simp only [Session.withRung, rung, Option.any_some, decide_eq_true_eq]
  rfl

end Sys2Proof.Machine

/-! SUPPORT. A follower's publish (R29, R103, R104, R149); O34. -/

namespace Sys2Proof.Machine

/-- One entry of a leader's list replaced: the entry of a publishing follower, whose default map is formed again (R149). -/
theorem TetherRole.reform_leader {fs : List FollowerEntry} {i : SessionIx} {f f' : FollowerEntry} {count : Nat}
    (distinct : (fs.map FollowerEntry.index).Nodup) (listed : f ∈ fs) (index : f.index = i) (index' : f'.index = i)
    (isDefault : f'.isDefault = f.isDefault)
    (map : ∀ k (h : k < 12), f'.map[k] = if f.isDefault then min k (count - 1) else f.map[k]) :
    (TetherRole.leader fs).reform i count = .leader (fs.map fun q => if q.index = i then f' else q) := by
  have own : ∀ q ∈ fs, q.index = i → q = f := fun q hq same =>
    List.inj_on_of_nodup_map distinct hq listed (same.trans index.symm)
  have formed : f' = if f.isDefault then { f with map := defaultMap count } else f := by
    have entries : f'.map = if f.isDefault then defaultMap count else f.map := Vector.ext fun k h => by
      rw [map k h]
      split <;> simp [defaultMap]
    obtain ⟨_, _, _⟩ := f'
    obtain ⟨_, _, _⟩ := f
    simp only at index index' isDefault entries
    subst index' isDefault entries index
    split <;> rfl
  refine congrArg TetherRole.leader (List.map_congr_left fun q hq => ?_)
  by_cases same : q.index = i
  · obtain rfl := own q hq same
    rw [if_pos same, formed]
    simp [same]
  · simp [same]

section
variable {s : State} {i m : SessionIx} {g : Staging} {l old : Ladder} {p : Profile} {e : Effective} {r low new : Nat}
  {fs : List FollowerEntry} {f f' : FollowerEntry}

/-- The state that a follower's publish stores before it moves a rung: its record, and its entry in its leader's list. -/
def State.storedFollower (s : State) (i m : SessionIx) (g : Staging) (l : Ladder) (fs : List FollowerEntry)
    (f' : FollowerEntry) : State :=
  (s.modSession i fun x => x.storing g l).modSession m fun y =>
    { y with role := .leader (fs.map fun q => if q.index = i then f' else q) }

theorem State.published_of_follower (follows : (s.session i).role = .follower m) (leads : (s.session m).role = .leader fs)
    (apart : m ≠ i) (reformed : (TetherRole.leader fs).reform i l.count = .leader (fs.map fun q => if q.index = i then f' else q)) :
    s.published i g l = (((if (s.session i).isStreaming then (s.storedFollower i m g l fs f').carryRungs i (s.session i).ladder
      else (s.storedFollower i m g l fs f').firstRung i).modSession i fun y => y.restartUpHold s.time).recompute) := by
  have stored : ((s.modSession i fun x => { x with staging := g }).modSession i fun y =>
      { y with published := some l, generation := y.generation + 1, admin := .streaming }) =
      s.modSession i fun x => x.storing g l := State.modSession_modSession _ _ _ _
  have record : (s.modSession i fun x => x.storing g l).session i = (s.session i).storing g l := State.modSession_session_self _ _ _
  have mapped : (s.modSession i fun x => x.storing g l).reformMap i = s.storedFollower i m g l fs f' := by
    have role : ((s.modSession i fun x => x.storing g l).session i).role = .follower m := by rw [record]; exact follows
    have count : ((s.modSession i fun x => x.storing g l).session i).mapCount = l.count := by rw [record]; rfl
    have leader : (s.modSession i fun x => x.storing g l).session m = s.session m := State.modSession_session_ne _ _ _ _ apart
    unfold State.reformMap
    simp only [role, count]
    exact State.modSession_congr (by rw [leader, leads, reformed])
  have before : (s.modSession i fun x => { x with staging := g }).session i = { s.session i with staging := g } :=
    State.modSession_session_self _ _ _
  simp only [State.published, State.publish, stored, mapped, before]
  rfl

theorem State.storedFollower_session (apart : m ≠ i) : (s.storedFollower i m g l fs f').session i = (s.session i).storing g l := by
  unfold State.storedFollower
  rw [State.modSession_session_ne _ _ _ _ apart.symm, State.modSession_session_self]

theorem State.storedFollower_leader (apart : m ≠ i) : (s.storedFollower i m g l fs f').session m =
    { s.session m with role := .leader (fs.map fun q => if q.index = i then f' else q) } := by
  unfold State.storedFollower
  rw [State.modSession_session_self, State.modSession_session_ne _ _ _ _ apart]

/-- The entry of a publishing follower in its leader's list. -/
theorem State.storedFollower_entry (apart : m ≠ i) (distinct : (fs.map FollowerEntry.index).Nodup) (listed : f ∈ fs)
    (index : f.index = i) (index' : f'.index = i) : ((s.storedFollower i m g l fs f').session m).entryFor i = some f' := by
  rw [State.storedFollower_leader apart, Session.entryFor]
  have found : fs.find? (fun e => decide (e.index = i)) = some f := by
    cases h : fs.find? fun e => decide (e.index = i) with
    | none => exact absurd index (by simpa using List.find?_eq_none.mp h f listed)
    | some q =>
      have same : q.index = i := by simpa using List.find?_some h
      rw [List.inj_on_of_nodup_map distinct (List.mem_of_find?_eq_some h) listed (same.trans index.symm)]
  have kept : ((fun e : FollowerEntry => decide (e.index = i)) ∘ fun q => if q.index = i then f' else q) =
      fun e => decide (e.index = i) := funext fun q => by
    by_cases same : q.index = i <;> simp [same, index']
  change (fs.map fun q => if q.index = i then f' else q).find? (fun e => decide (e.index = i)) = some f'
  rw [List.find?_map, kept, found, Option.map_some, if_pos index]

/-- Under a leader that holds a rung, a publishing follower is derived from it (R103). -/
theorem State.storedFollower_derives {v : State} (hv : v = s.storedFollower i m g l fs f') (apart : m ≠ i)
    (distinct : (fs.map FollowerEntry.index).Nodup) (listed : f ∈ fs) (index : f.index = i) (index' : f'.index = i)
    (rung : (s.session m).rung = some r) (eff : (s.session i).eff = some e) (lowest : l.IsLowest low)
    (highest : IsHighest l.rungs.length (fun k => l.Allows low e.ceiling none k ∧ k ≤ (f'.map[r]?).getD 0) low new) :
    v.deriveFollower m i = v.modSession i fun x => x.withRung new := by
  have entry : (v.session m).entryFor i = some f' := hv ▸ State.storedFollower_entry apart distinct listed index index'
  have record : v.session i = (s.session i).storing g l := hv ▸ State.storedFollower_session apart
  have leads : (v.session m).rung = some r := by
    rw [hv, State.storedFollower_leader apart]
    exact rung
  have on : (v.session i).isStreaming = true := by
    rw [record]
    rfl
  have mapped : (v.session i).mappedRung f' r = new :=
    (Session.highestAllowed_isHighest (x := v.session i) (by rw [record]; rfl) (by rw [record]; exact eff) lowest none
      fun _ => decide_eq_true_iff).unique highest
  simp only [State.deriveFollower, entry, State.derive, leads, index', on, if_true]
  exact State.modSession_congr (by rw [mapped, Session.moveTo_eq])

/-- The rung of a follower's first publish: derived, or the lowest one while the leader holds none (R26, R103). -/
theorem State.firstRung_of_follower {v : State} (follows : (v.session i).role = .follower m)
    (derived : ∀ r, (v.session m).rung = some r → v.deriveFollower m i = v.modSession i fun x => x.withRung new)
    (still : (v.session i).rung = none) (lowest : (v.session m).rung = none → (v.session i).ladder.lowest = new) :
    v.firstRung i = v.modSession i fun x => x.withRung new := by
  unfold State.firstRung
  simp only [follows]
  cases rung : (v.session m).rung with
  | some r => exact derived r rung
  | none =>
    refine State.modSession_congr ?_
    simp only [lowest rung, Session.withRung, still, Option.any_none, Bool.false_eq_true, if_false]

/-- The rung of a follower's republish: derived, or carried by bitrate while the leader holds none (R28, R103). -/
theorem State.carryRungs_of_follower {v : State} (follows : (v.session i).role = .follower m)
    (derived : ∀ r, (v.session m).rung = some r → v.deriveFollower m i = v.modSession i fun x => x.withRung new)
    (carried : (v.session m).rung = none → (v.session i).remapped old = (v.session i).withRung new) :
    v.carryRungs i old = v.modSession i fun x => x.withRung new := by
  unfold State.carryRungs
  simp only [follows]
  cases rung : (v.session m).rung with
  | some r => exact derived r rung
  | none => exact State.modSession_congr (carried rung)

/-- A record without a draw cap carries its rung alone (R27, R28). -/
theorem Session.remapped_of_uncapped {x : Session} (uncapped : x.draw.cap = none) (rung : x.rung = some r) :
    x.remapped old = x.withRung (remapRung old x.ladder x.ceiling none r) := by
  simp only [Session.remapped, uncapped, Option.map_none, rung, Session.moveTo_eq]
  simp only [Session.withRung, rung, ← uncapped]

/-- What a follower's publish leaves, once its rung is moved. -/
theorem State.storedFollower_moved (apart : m ≠ i) (profile : (s.session i).profile = some p) :
    (((s.storedFollower i m g l fs f').modSession i fun x => x.withRung new).modSession i fun y => y.restartUpHold s.time) =
      (s.modSession m fun y => { y with role := .leader (fs.map fun q => if q.index = i then f' else q) }).modSession i
        fun x => { x.withRung new with
          staging := g, published := some l, generation := x.generation + 1, admin := .streaming
          upHold := p.upHoldFrom s.time } := by
  have swapped := State.modSession_comm s m i (g := fun x => x.storing g l)
    (f := fun y => { y with role := .leader (fs.map fun q => if q.index = i then f' else q) }) fun _ => rfl
  rw [State.storedFollower, swapped, State.modSession_modSession, State.modSession_modSession]
  refine State.modSession_congr ?_
  rw [State.modSession_session_ne _ _ _ _ apart.symm, Session.restartUpHold_eq (p := p) (by exact profile)]
  rfl

end

/-- Settles O34: a leader's publish, first and again, and a follower's. -/
theorem publishInATether : Obligations.PublishInATether := by
  intro s b n i g l low p e hold publishes profile eff held
  obtain rfl : hold = p.upHoldFrom s.time := held
  have lowest := publishes.lowest
  refine ⟨fun fs leads distinct apart => ⟨fun primed _ => ?_, fun old r new cap streaming published rung uncapped capped highest => ?_⟩,
    fun m fs f f' new follows leads apart distinct listed index index' isDefault map admitted derives starts carries unset => ?_⟩
  · have followers : (s.session i).followers = fs := by rw [Session.followers, leads]
    obtain ⟨u, result, derived⟩ := State.published_first (g := g) (l := l) primed (by rw [leads]; exact nofun) profile
      (followers.symm ▸ distinct) (followers.symm ▸ apart)
    rw [followers, lowest.lowest_eq] at derived
    exact ⟨u, result ▸ publishes.noteDoes (.inl primed), derived.followersDerived⟩
  · have followers : (s.session i).followers = fs := by rw [Session.followers, leads]
    have carried := remapCap_eq lowest uncapped capped
    obtain rfl : remapRung old l e.ceiling cap r = new := (remapRung_isHighest lowest old e.ceiling cap r).unique highest
    obtain ⟨u, result, derived⟩ := State.published_again (g := g) (l := l) streaming (by rw [leads]; exact nofun) profile eff
      published rung (followers.symm ▸ distinct) (followers.symm ▸ apart) carried
    rw [followers] at derived
    exact ⟨u, result ▸ publishes.noteDoes (.inr streaming), derived.followersDerived⟩
  · have done := publishes.noteDoes admitted
    rw [State.published_of_follower follows leads apart (TetherRole.reform_leader distinct listed index index' isDefault map)]
      at done
    obtain ⟨v, hv⟩ : ∃ v, v = s.storedFollower i m g l fs f' := ⟨_, rfl⟩
    have record : v.session i = (s.session i).storing g l := hv ▸ State.storedFollower_session apart
    have role : (v.session i).role = .follower m := by rw [record]; exact follows
    have leader : (v.session m).rung = (s.session m).rung := by rw [hv, State.storedFollower_leader apart]
    have derived : ∀ r, (v.session m).rung = some r → v.deriveFollower m i = v.modSession i fun x => x.withRung new :=
      fun r rung => State.storedFollower_derives hv apart distinct listed index index' (leader.symm.trans rung) eff lowest
        (derives r (leader.symm.trans rung))
    have ladder : (v.session i).ladder = l := Session.ladder_of_published (by rw [record]; rfl)
    have ceiling : (v.session i).ceiling = e.ceiling := Session.ceiling_of_eff (by rw [record]; exact eff)
    have moved : (if (s.session i).isStreaming then v.carryRungs i (s.session i).ladder else v.firstRung i) =
        v.modSession i fun x => x.withRung new := by
      rcases admitted with primed | streaming
      · rw [if_neg (by simp [Session.isStreaming, primed])]
        refine State.firstRung_of_follower role derived (by rw [record]; exact unset primed) fun rung => ?_
        rw [ladder, lowest.lowest_eq, starts (leader.symm.trans rung) primed]
      · rw [if_pos (by simp [Session.isStreaming, streaming])]
        refine State.carryRungs_of_follower role derived fun rung => ?_
        obtain ⟨uncapped, old, r, published, own, highest⟩ := carries (leader.symm.trans rung) streaming
        rw [Session.remapped_of_uncapped (r := r) (by rw [record]; exact uncapped) (by rw [record]; exact own), ladder, ceiling,
          Session.ladder_of_published published, (remapRung_isHighest lowest old e.ceiling none r).unique highest]
    rw [← hv, moved, hv, State.storedFollower_moved apart profile] at done
    exact done

end Sys2Proof.Machine

/-! SUPPORT. The evaluation of a draw window for one contender (R129 to R136); O49. -/

namespace Sys2Proof.Machine

/-! The over-low marks (R136). -/

/-- A slot of the slot table with the over-low mark, where it is a member's. -/
def markedFor (members : List SessionIx) (o : Option Slot) : Option Slot :=
  o.map fun y => if y.session ∈ members then { y with overLow := true } else y

theorem markedFor_markedFor (members : List SessionIx) (o : Option Slot) :
    markedFor members (markedFor members o) = markedFor members o := by
  cases o with
  | none => rfl
  | some y => by_cases h : y.session ∈ members <;> simp [markedFor, h]

section
variable {s t : State} {i : SessionIx} {members : List SessionIx}

theorem State.setSlot_slot_same (s : State) (k : SlotIx) : s.setSlot k (s.slot k) = s := by
  simp [State.setSlot, State.slot]

/-- Marking the slots of a list one after the other. -/
theorem State.foldl_marked (members : List SessionIx) (ks : List SlotIx) (s : State) :
    (∀ m, (ks.foldl (fun t k => t.setSlot k (markedFor members (t.slot k))) s).slot m =
      if m ∈ ks then markedFor members (s.slot m) else s.slot m) ∧
    ks.foldl (fun t k => t.setSlot k (markedFor members (t.slot k))) s =
      { s with gate.slots := (ks.foldl (fun t k => t.setSlot k (markedFor members (t.slot k))) s).gate.slots } := by
  induction ks generalizing s with
  | nil => simp
  | cons k ks ih =>
    obtain ⟨slots, apart⟩ := ih (s.setSlot k (markedFor members (s.slot k)))
    refine ⟨fun m => ?_, ?_⟩
    · rw [List.foldl_cons, slots]
      by_cases same : m = k
      · subst same
        simp only [State.setSlot_slot_self, markedFor_markedFor, ite_self, List.mem_cons, true_or, if_true]
      · simp only [State.setSlot_slot_ne _ _ _ _ same, List.mem_cons, same, false_or]
    · rw [List.foldl_cons, apart]
      rfl

theorem State.markOverLow_eq (held : s.streamingMembers i = members) :
    s.markOverLow i = { s with gate.slots := s.gate.slots.map (markedFor members) } := by
  have stepwise : s.markOverLow i = allSlots.foldl (fun t k => t.setSlot k (markedFor members (t.slot k))) s := by
    refine List.foldl_ext _ _ _ fun t k _ => ?_
    have same := State.setSlot_slot_same t k
    cases h : t.slot k with
    | none => exact (h ▸ same).symm
    | some x =>
      rw [h] at same
      by_cases own : x.session ∈ members <;> simp [held, own, markedFor, same]
  obtain ⟨slots, apart⟩ := State.foldl_marked members allSlots s
  have table : (allSlots.foldl (fun t k => t.setSlot k (markedFor members (t.slot k))) s).gate.slots =
      s.gate.slots.map (markedFor members) := Vector.ext fun k hk => by
    have here := slots ⟨k, hk⟩
    rw [if_pos (mem_allSlots _)] at here
    simpa [State.slot] using here
  rw [stepwise, apart, table]

/-! Causes: an evaluation that is no overdraw raises none. -/

theorem State.pendingSets_congr (device : t.control.devicePending = s.control.devicePending)
    (causes : ∀ j, (t.session j).causes = (s.session j).causes) : t.pendingSets = s.pendingSets := by
  simp only [State.pendingSets, device, causes]

theorem State.pendingSets_modSession {f : Session → Session} (causes : ∀ x, (f x).causes = x.causes) :
    (s.modSession i f).pendingSets = s.pendingSets :=
  State.pendingSets_congr rfl fun j => by
    rw [State.modSession_session]
    split
    · exact causes _
    · rfl

theorem settle_of_silent (h : t.pendingSets = s.pendingSets) : settle s t = t := if_pos h.symm

end

/-! Contention (R133). -/

theorem foldl_min_lt_iff {α : Type} (g : α → Nat) (l : List α) (a n : Nat) :
    l.foldl (fun m x => min m (g x)) a < n ↔ a < n ∨ ∃ x ∈ l, g x < n := by
  induction l generalizing a with
  | nil => simp
  | cons x l ih => simp only [List.foldl_cons, ih, min_lt_iff, List.mem_cons, exists_eq_or_imp, or_assoc]

section
variable {s : State} {i : SessionIx}

theorem State.zoneLevel_lt_iff (n : Nat) : s.zoneLevel i < n ↔ ∃ m ∈ s.streamingMembers i, (s.session m).level s.time < n := by
  rw [State.zoneLevel, foldl_min_lt_iff]
  exact or_iff_right_of_imp fun own => ⟨i, List.mem_cons_self, own⟩

theorem State.contended_iff : s.contended i = true ↔ ∃ j e, j ≠ i ∧ (s.session j).isContender = true ∧ (s.session j).eff = some e ∧
    (∃ m ∈ s.streamingMembers j, ∃ k y, s.slot k = some y ∧ y.session = m) ∧
    ∃ m ∈ s.streamingMembers j, (s.session m).level s.time < e.lowGuard := by
  have holds : ∀ m, (!(s.slotsOf m).isEmpty) = true ↔ ∃ k y, s.slot k = some y ∧ y.session = m := fun m => by
    rw [Bool.not_eq_true', ← Bool.not_eq_true, State.slotsOf_isEmpty_iff]
    push Not
    rfl
  simp only [State.contended, State.inNeed, List.any_eq_true, mem_allSessions, true_and, Bool.and_eq_true, decide_eq_true_eq,
    Option.any_eq_true, State.zoneLevel_lt_iff, holds]
  constructor
  · rintro ⟨j, other, ⟨contender, slots⟩, e, eff, low⟩
    exact ⟨j, e, other, contender, eff, slots, low⟩
  · rintro ⟨j, e, other, contender, eff, slots, low⟩
    exact ⟨j, other, ⟨contender, slots⟩, e, eff, low⟩

/-- The condition of an evaluation, in the words of R130 and R134. -/
theorem State.evaluates_eq {x : Session} {p : Profile} {started : Time} (hx : x = s.session i) (profile : x.profile = some p)
    (hstarted : started = if s.time = 0 then 4294967200#32 else s.time - 100#32) :
    s.evaluates i = decide (x.admin = .streaming ∧ x.follows = false ∧ p.drawKind ≠ .unwatched ∧ x.draw.phase = .watching ∧
      (x.draw.settled = true ∨ x.draw.entryTime.any (reached started) = true) ∧
      ¬ (p.drawKind = .start ∧ x.draw.openMark = true)) := by
  have started' : windowBegin s.time = started := hstarted.symm
  have permits : x.draw.permits s.time = (x.draw.settled || x.draw.entryTime.any (reached started)) := by
    rw [DrawState.permits, started']
    rfl
  subst hx
  have kind := Session.drawKind_of_profile profile
  simp only [State.evaluates, permits, Session.isSupervised, Session.isContender, Session.isStreaming, kind]
  rw [Bool.eq_iff_iff]
  simp only [Bool.and_eq_true, Bool.or_eq_true, Bool.not_eq_true', decide_eq_true_eq, Bool.and_eq_false_iff, decide_eq_false_iff_not,
    not_and, Bool.not_eq_true, ne_eq]
  tauto

end

/-! The two rules for an on-window (R135, R136). -/

section
variable {s : State} {i : SessionIx} {d high mid low : Nat} {c : Bool} {z : Shares}

/-- The over-time of a contender that goes on. -/
def State.overTimed (s : State) (i : SessionIx) : State :=
  s.modSession i fun y => { y with draw.overTime := y.draw.overTime + 100 }

theorem State.overTimed_silent : (s.overTimed i).pendingSets = s.pendingSets := by
  refine State.pendingSets_modSession ?_
  exact fun _ => rfl

theorem judgeStart_of_stage {u : Setup} {x : Session} (shares : x.shares = some z) (hhigh : high = z.share * u.high / 16)
    (hmid : mid = z.share * u.mid / 16) (early : x.draw.stageClock < u.wA + u.wB) : judgeStart u x d c =
      (decide (c = true ∧ (if x.draw.stageClock < u.wA then high else mid) < d), x.draw.overTime) := by
  have share : x.share = z.share := by simp [Session.share, shares]
  unfold judgeStart drawLimit
  rw [share, ← hhigh, ← hmid]
  by_cases first : x.draw.stageClock < u.wA
  · simp [first]
  · simp [first, early]

theorem judgeStart_of_steady {u : Setup} {x : Session} (shares : x.shares = some z) (hlow : low = z.share * u.low / 16)
    (late : u.wA + u.wB ≤ x.draw.stageClock) : judgeStart u x d c =
      if c = true ∧ low < d then (decide (u.wS < x.draw.overTime + 100), x.draw.overTime + 100) else (false, x.draw.overTime) := by
  have share : x.share = z.share := by simp [Session.share, shares]
  unfold judgeStart drawLimit
  rw [share, ← hlow, if_neg (by omega), if_neg (by omega)]
  simp only [Bool.and_eq_true, decide_eq_true_eq]

/-- Stages A and B of the START staircase (R135). -/
theorem State.evaluateStart_of_stage (shares : (s.session i).shares = some z) (hhigh : high = z.share * s.setup.high / 16)
    (hmid : mid = z.share * s.setup.mid / 16) (early : (s.session i).draw.stageClock < s.setup.wA + s.setup.wB) :
    s.evaluateStart i d c =
      if c = true ∧ (if (s.session i).draw.stageClock < s.setup.wA then high else mid) < d then s.overdraw i
      else s.modSession i fun y => { y with
        draw.stageClock := min (y.draw.stageClock + 100) (s.setup.wA + s.setup.wB) } := by
  have untimed : (s.modSession i fun y => { y with draw := { y.draw with overTime := (s.session i).draw.overTime } }) = s :=
    State.modSession_eq_self _ _ _ rfl
  have advanced : (s.modSession i fun y => { y with draw.stageClock := stageAdvance s.setup y.draw.stageClock }) =
      s.modSession i fun y => { y with draw.stageClock := min (y.draw.stageClock + 100) (s.setup.wA + s.setup.wB) } :=
    State.modSession_congr (by simp only [stageAdvance, if_pos early])
  simp only [State.evaluateStart, judgeStart_of_stage shares hhigh hmid early, untimed, advanced, decide_eq_true_eq]

/-- The Steady stage of the START staircase (R135). -/
theorem State.evaluateStart_of_steady (shares : (s.session i).shares = some z) (hlow : low = z.share * s.setup.low / 16)
    (late : s.setup.wA + s.setup.wB ≤ (s.session i).draw.stageClock) : s.evaluateStart i d c =
      if c = true ∧ low < d then
        if s.setup.wS < (s.session i).draw.overTime + 100 then (s.overTimed i).overdraw i else s.overTimed i
      else s := by
  have stays : stageAdvance s.setup (s.session i).draw.stageClock = (s.session i).draw.stageClock := if_neg (by omega)
  by_cases accrues : c = true ∧ low < d
  · have timed : (s.modSession i fun y => { y with draw := { y.draw with overTime := (s.session i).draw.overTime + 100 } }) =
        s.overTimed i := State.modSession_congr rfl
    have kept : ((s.overTimed i).modSession i fun y => { y with draw.stageClock := stageAdvance s.setup y.draw.stageClock }) =
        s.overTimed i := State.modSession_eq_self _ _ _ (by
      rw [State.overTimed, State.modSession_session_self]
      simp only [stays])
    simp only [State.evaluateStart, judgeStart_of_steady shares hlow late, if_pos accrues, timed, kept, decide_eq_true_eq]
  · have untimed : (s.modSession i fun y => { y with draw := { y.draw with overTime := (s.session i).draw.overTime } }) = s :=
      State.modSession_eq_self _ _ _ rfl
    have kept : (s.modSession i fun y => { y with draw.stageClock := stageAdvance s.setup y.draw.stageClock }) = s :=
      State.modSession_eq_self _ _ _ (by simp only [stays])
    simp only [State.evaluateStart, judgeStart_of_steady shares hlow late, if_neg accrues, untimed, kept, Bool.false_eq_true, if_false]

/-- The LIVE rule (R136). -/
theorem State.evaluateLive_eq (shares : (s.session i).shares = some z) (hhigh : high = z.share * s.setup.high / 16)
    (hlow : low = z.share * s.setup.low / 16) : s.evaluateLive i d c =
      if c = true ∧ low < d then
        if high < d then (s.markOverLow i).overdraw i
        else if s.setup.wM < (s.session i).draw.overTime + 100 then ((s.markOverLow i).overTimed i).overdraw i
        else (s.markOverLow i).overTimed i
      else s := by
  have share : (s.session i).share = z.share := by simp [Session.share, shares]
  simp only [State.evaluateLive, drawLimit, share, ← hhigh, ← hlow, Bool.and_eq_true, decide_eq_true_eq]
  rfl

end

/-- What is kept of a window that is evaluated (R130, R131). -/
def State.windowKept (s : State) (i : SessionIx) (d : Nat) (c : Bool) : State :=
  s.modSession i fun y => { y with draw := { y.draw with
    settled := true, lastWindow := some { windowEnd := s.time, draw := d, contended := c } } }

section
variable {s : State} {i : SessionIx} {d : Nat} {c : Bool}

theorem State.evaluateWindow_of_on {p : Profile} (evaluated : s.evaluates i = true) (on : s.onWindow i = true)
    (draw : s.drawOf i = d) (contended : s.contended i = c) (profile : (s.session i).profile = some p) :
    (p.drawKind = .start → s.evaluateWindow i = settle s ((s.windowKept i d c).evaluateStart i d c)) ∧
    (p.drawKind = .live → s.evaluateWindow i = settle s ((s.windowKept i d c).evaluateLive i d c)) := by
  have kind := Session.drawKind_of_profile profile
  refine ⟨fun start => ?_, fun live => ?_⟩
  · simp only [State.evaluateWindow, evaluated, on, draw, contended, kind, start, if_true]
    rfl
  · simp only [State.evaluateWindow, evaluated, on, draw, contended, kind, live, if_true]
    rfl

theorem State.windowKept_session (s : State) (i : SessionIx) (d : Nat) (c : Bool) : (s.windowKept i d c).session i =
    { s.session i with draw := { (s.session i).draw with
        settled := true, lastWindow := some { windowEnd := s.time, draw := d, contended := c } } } :=
  State.modSession_session_self _ _ _

theorem State.windowKept_silent : (s.windowKept i d c).pendingSets = s.pendingSets := State.pendingSets_modSession fun _ => rfl

theorem State.windowKept_streamingMembers : (s.windowKept i d c).streamingMembers i = s.streamingMembers i := by
  have followers : ((s.windowKept i d c).session i).followers = (s.session i).followers := by
    rw [State.windowKept_session]
    rfl
  have streaming : ∀ m, ((s.windowKept i d c).session m).isStreaming = (s.session m).isStreaming := fun m => by
    rw [State.windowKept, State.modSession_session]
    split <;> rfl
  simp only [State.streamingMembers, followers, streaming]

end

/-- Settles O49: the condition, the off-window, and the two rules. -/
theorem windowsAreJudged : Obligations.WindowsAreJudged := by
  intro s kept i x p started d members evaluated contended hx profile hstarted hevaluated hmembers hd hcontended hkept
  subst hx
  have evaluates : s.evaluates i = evaluated := (State.evaluates_eq rfl profile hstarted).trans hevaluated.symm
  have listed : s.streamingMembers i = members := hmembers.symm
  have draw : s.drawOf i = d := by rw [hd, State.drawOf, listed]
  have contends : s.contended i = contended := Bool.eq_iff_iff.mpr (State.contended_iff.trans hcontended.symm)
  obtain rfl : kept = s.windowKept i d contended := hkept
  refine ⟨fun off => ?_, fun taken quiet => ?_, ?_⟩
  · simp only [State.evaluateWindow, evaluates, off, Bool.false_eq_true, if_false]
  · have off : s.onWindow i = false := by
      rw [State.onWindow, listed, List.any_eq_false]
      exact fun m hm => by simp [quiet m hm]
    simp only [State.evaluateWindow, evaluates, taken, off, draw, contends, if_true, Bool.false_eq_true, if_false]
    rfl
  intro z high mid low timed receiving taken shares hhigh hmid hlow htimed
  obtain rfl : timed = fun u => u.overTimed i := funext htimed
  have on : s.onWindow i = true := by
    obtain ⟨m, hm, mark⟩ := receiving
    rw [State.onWindow, listed]
    exact List.any_eq_true.mpr ⟨m, hm, mark⟩
  obtain ⟨startWindow, liveWindow⟩ := State.evaluateWindow_of_on (evaluates.trans taken) on draw contends profile
  obtain ⟨k, hk⟩ : ∃ k, k = s.windowKept i d contended := ⟨_, rfl⟩
  have record := State.windowKept_session s i d contended
  have silent : k.pendingSets = s.pendingSets := hk ▸ State.windowKept_silent
  rw [← hk] at record startWindow liveWindow ⊢
  have keptShares : (k.session i).shares = some z := by rw [record]; exact shares
  have clock : (k.session i).draw.stageClock = (s.session i).draw.stageClock := by rw [record]
  have overTime : (k.session i).draw.overTime = (s.session i).draw.overTime := by rw [record]
  have setup : k.setup = s.setup := by rw [hk]; rfl
  refine ⟨fun start => ⟨fun early => ?_, fun late => ?_⟩, fun live => ?_⟩
  · have stage := State.evaluateStart_of_stage (d := d) (c := contended) keptShares (setup ▸ hhigh) (setup ▸ hmid)
      (by rw [clock, setup]; exact early)
    rw [clock, setup] at stage
    rw [startWindow start, stage]
    refine ⟨fun drawn => ?_, fun drawn => ?_⟩
    · rw [if_pos drawn]
      exact settle_apart s _
    · rw [if_neg drawn]
      refine settle_of_silent (Eq.trans (State.pendingSets_modSession ?_) silent)
      exact fun _ => rfl
  · have steady := State.evaluateStart_of_steady (d := d) (c := contended) keptShares (setup ▸ hlow)
      (by rw [clock, setup]; exact late)
    rw [overTime, setup] at steady
    rw [startWindow start, steady]
    refine ⟨fun idle => ?_, fun contended low => ⟨fun within => ?_, fun beyond => ?_⟩⟩
    · rw [if_neg fun drawn => idle.elim (by simp [drawn.1]) fun h => absurd drawn.2 (by omega)]
      exact settle_of_silent silent
    · rw [if_pos ⟨contended, low⟩, if_neg (by omega)]
      exact settle_of_silent (State.overTimed_silent.trans silent)
    · rw [if_pos ⟨contended, low⟩, if_pos beyond]
      exact settle_apart s _
  · have rule := State.evaluateLive_eq (d := d) (c := contended) keptShares (setup ▸ hhigh) (setup ▸ hlow)
    rw [overTime, setup] at rule
    rw [liveWindow live, rule]
    refine ⟨fun idle => ?_, fun marked contended low hmarked => ?_⟩
    · rw [if_neg fun drawn => idle.elim (by simp [drawn.1]) fun h => absurd drawn.2 (by omega)]
      exact settle_of_silent silent
    · obtain rfl : k.markOverLow i = marked := by
        rw [hmarked, State.markOverLow_eq ((hk ▸ State.windowKept_streamingMembers).trans listed)]
        rfl
      have markedSilent : (k.markOverLow i).pendingSets = s.pendingSets := by
        rw [← silent, hmarked]
        rfl
      rw [if_pos ⟨contended, low⟩]
      refine ⟨fun above => ?_, fun below within => ?_, fun below beyond => ?_⟩
      · rw [if_pos above]
        exact settle_apart s _
      · rw [if_neg (by omega), if_neg (by omega)]
        exact settle_of_silent (State.overTimed_silent.trans markedSilent)
      · rw [if_neg (by omega), if_pos beyond]
        exact settle_apart s _

end Sys2Proof.Machine

/-! SUPPORT. The end of a draw window: what the evaluation of one contender leaves of the others, and the quantities of the next
window (R130, R131, R136, R138, R139); O48. -/

namespace Sys2Proof.Machine

/-! A change of every session's record. -/

section
variable {s t u : State} {i j : SessionIx}

theorem allSessions_nodup : allSessions.Nodup := by decide

/-- Changing the records of distinct sessions one after the other changes each once. -/
theorem State.foldl_modSession_session (f : SessionIx → Session → Session) (l : List SessionIx) (distinct : l.Nodup) (s : State)
    (j : SessionIx) : (l.foldl (fun t i => t.modSession i (f i)) s).session j =
      if j ∈ l then f j (s.session j) else s.session j := by
  induction l generalizing s with
  | nil => simp
  | cons i l ih =>
    obtain ⟨fresh, distinct⟩ := List.nodup_cons.mp distinct
    rw [List.foldl_cons, ih distinct, State.modSession_session]
    by_cases same : j = i
    · subst same
      simp [fresh]
    · simp [same]

theorem State.foldl_allSessions_session (f : SessionIx → Session → Session) (s : State) (j : SessionIx) :
    (allSessions.foldl (fun t i => t.modSession i (f i)) s).session j = f j (s.session j) := by
  rw [State.foldl_modSession_session f _ allSessions_nodup, if_pos (mem_allSessions j)]

theorem State.giveShares_session (s : State) (claims : List ShareClaim) (shares : List (SessionIx × Nat)) (j : SessionIx) :
    (s.giveShares claims shares).session j = { s.session j with shares := sharesOf claims shares j } := by
  unfold State.giveShares
  exact State.foldl_allSessions_session (fun i x => { x with shares := sharesOf claims shares i }) s j

theorem State.recompute_session (s : State) (j : SessionIx) : s.recompute.session j =
    { s.session j with shares := sharesOf s.shareClaims (divide s.allocatable s.shareClaims) j } := by
  have apart : ∀ (t : State) (a : Allocation), ({ t with alloc := a } : State).session j = t.session j := fun _ _ => rfl
  rw [State.recompute, apart, State.giveShares_session]

theorem State.clearWindows_session (s : State) (j : SessionIx) : s.clearWindows.session j =
    { s.session j with draw := (s.session j).draw.nextWindow (s.holdsReceiving j) } :=
  State.foldl_allSessions_session (fun i x => { x with draw := x.draw.nextWindow (s.holdsReceiving i) }) s j

/-! What the evaluation of one contender leaves. -/

/-- The record with what another contender's evaluation can move of it cleared: its rung and its share. -/
def Session.apartFromOthers (x : Session) : Session := { x.apartFromRung with shares := none }

theorem Session.apartFromOthers_of_rung {x y : Session} (h : y.apartFromRung = x.apartFromRung) :
    y.apartFromOthers = x.apartFromOthers := congrArg (fun z : Session => { z with shares := none }) h

theorem State.recompute_apart (j : SessionIx) : (s.recompute.session j).apartFromOthers = (s.session j).apartFromOthers := by
  rw [State.recompute_session]
  rfl

/-- The record an overdraw gives its contender, and what it leaves of the others (R138, R139). -/
theorem State.overdraw_apart (s : State) (i j : SessionIx) : ((s.overdraw i).session j).apartFromOthers =
    (if j = i then
      { (s.session i).overdrawn s.time (s.session i).demotedRung with
        causes := ((s.session i).overdrawn s.time (s.session i).demotedRung).causes ||| (s.session i).overdrawCause.bit }
    else s.session j).apartFromOthers := by
  obtain ⟨c, hc⟩ : ∃ c, c = s.modSession i fun y => y.overdrawn s.time (s.session i).demotedRung := ⟨_, rfl⟩
  obtain ⟨v, hv⟩ : ∃ v, v = ((if (s.session i).demotedRung < (s.session i).rung.getD 0 then
      c.moveRung i (s.session i).demotedRung else c).modSession i fun y => y.restartUpHold s.time) := ⟨_, rfl⟩
  have lowered : OnlyRungs c v := by
    rw [hv]
    refine OnlyRungs.trans ?_ (OnlyRungs.modSession fun x => x.apartFromRung_restartUpHold s.time)
    split
    · exact State.moveRung_onlyRungs c i _
    · exact .refl c
  have overdraw : s.overdraw i = (v.raiseOn i (s.session i).overdrawCause).recompute := by
    rw [hv, hc]
    rfl
  have record := lowered j
  rw [overdraw, State.recompute_apart, State.raiseOn, State.modSession_session]
  rw [hc, State.modSession_session] at record
  split
  · next same =>
    rw [if_pos same] at record
    subst same
    refine Eq.trans ?_ ((congrArg (fun z : Session => { z with
      causes := z.causes ||| (s.session j).overdrawCause.bit, shares := none }) record).trans ?_)
    · rfl
    · rfl
  · next other =>
    rw [if_neg other] at record
    exact Session.apartFromOthers_of_rung record

/-- What an evaluation of the window for one contender leaves: the others' draw and causes, every session's quantities of the
next window, and which sessions hold a RECEIVING slot. -/
structure WindowWork (i : SessionIx) (s t : State) : Prop where
  others : ∀ j, j ≠ i → (t.session j).apartFromOthers = (s.session j).apartFromOthers
  nextBytes : ∀ j, (t.session j).draw.nextBytes = (s.session j).draw.nextBytes
  nextMark : ∀ j, (t.session j).draw.nextMark = (s.session j).draw.nextMark
  receiving : ∀ j, t.holdsReceiving j = s.holdsReceiving j

theorem WindowWork.refl (s : State) : WindowWork i s s := ⟨fun _ _ => rfl, fun _ => rfl, fun _ => rfl, fun _ => rfl⟩

theorem WindowWork.trans (h : WindowWork i s t) (k : WindowWork i t u) : WindowWork i s u :=
  ⟨fun j hj => (k.others j hj).trans (h.others j hj), fun j => (k.nextBytes j).trans (h.nextBytes j),
    fun j => (k.nextMark j).trans (h.nextMark j), fun j => (k.receiving j).trans (h.receiving j)⟩

theorem State.holdsReceiving_of_slots (h : ∀ k, t.slot k = s.slot k) (j : SessionIx) : t.holdsReceiving j = s.holdsReceiving j := by
  simp only [State.holdsReceiving, State.slotsOf, h]

theorem WindowWork.modSession {f : Session → Session} (next : ∀ x, (f x).draw.nextBytes = x.draw.nextBytes ∧
    (f x).draw.nextMark = x.draw.nextMark) : WindowWork i s (s.modSession i f) := by
  refine ⟨fun j hj => ?_, fun j => ?_, fun j => ?_, State.holdsReceiving_of_slots fun _ => rfl⟩
  · rw [State.modSession_session, if_neg hj]
  · rw [State.modSession_session]
    split
    · exact (next _).1
    · rfl
  · rw [State.modSession_session]
    split
    · exact (next _).2
    · rfl

theorem Session.overdrawn_next (x : Session) (now : Time) (d : Nat) : (x.overdrawn now d).draw.nextBytes = x.draw.nextBytes ∧
    (x.overdrawn now d).draw.nextMark = x.draw.nextMark := by
  unfold Session.overdrawn
  split
  · exact ⟨rfl, rfl⟩
  · split <;> exact ⟨rfl, rfl⟩

theorem SharesOnly.slot (h : SharesOnly s t) (k : SlotIx) : t.slot k = s.slot k := by
  rw [h]
  rfl

theorem State.overdraw_windowWork (s : State) (i : SessionIx) : WindowWork i s (s.overdraw i) := by
  have shares : SharesOnly s (s.overdraw i) := s.overdraw_shares i
  have draw : ∀ j, ((s.overdraw i).session j).draw =
      (if j = i then (s.session i).overdrawn s.time (s.session i).demotedRung else s.session j).draw := fun j => by
    have cleared : ∀ x : Session, x.draw = x.apartFromOthers.draw := fun _ => rfl
    rw [cleared, s.overdraw_apart, ← cleared]
    split <;> rfl
  refine ⟨fun j hj => ?_, fun j => ?_, fun j => ?_, State.holdsReceiving_of_slots fun k => ?_⟩
  · rw [s.overdraw_apart, if_neg hj]
  · rw [draw]
    split
    · next same => rw [same, ((s.session i).overdrawn_next _ _).1]
    · rfl
  · rw [draw]
    split
    · next same => rw [same, ((s.session i).overdrawn_next _ _).2]
    · rfl
  · exact shares.slot k

theorem State.markOverLow_session (s : State) (i j : SessionIx) : (s.markOverLow i).session j = s.session j := by
  rw [State.session, State.session, s.markOverLow_sessions i]

theorem State.markOverLow_windowWork (s : State) (i : SessionIx) : WindowWork i s (s.markOverLow i) := by
  have records := s.markOverLow_session i
  refine ⟨fun j _ => by rw [records], fun j => by rw [records], fun j => by rw [records], fun j => ?_⟩
  have slot : ∀ k, (s.markOverLow i).slot k = markedFor (s.streamingMembers i) (s.slot k) := fun k => by
    rw [State.markOverLow_eq rfl]
    simp [State.slot]
  rw [Bool.eq_iff_iff]
  simp only [State.holdsReceiving, List.any_eq_true, Prod.exists, State.mem_slotsOf, slot]
  have phase : ∀ x : Slot, (if x.session ∈ s.streamingMembers i then { x with overLow := true } else x).isReceiving =
      x.isReceiving ∧ (if x.session ∈ s.streamingMembers i then { x with overLow := true } else x).session = x.session :=
    fun x => by split <;> exact ⟨rfl, rfl⟩
  constructor
  · rintro ⟨k, y, ⟨hy, own⟩, on⟩
    obtain ⟨x, hx, rfl⟩ := Option.map_eq_some_iff.mp hy
    exact ⟨k, x, ⟨hx, (phase x).2 ▸ own⟩, (phase x).1 ▸ on⟩
  · rintro ⟨k, x, ⟨hx, own⟩, on⟩
    exact ⟨k, _, ⟨by rw [hx]; rfl, (phase x).2.trans own⟩, (phase x).1.trans on⟩

theorem WindowWork.of_apart (h : t.apartFromReports = s.apartFromReports) : WindowWork i s t :=
  ⟨fun j _ => by rw [State.session_of_apart h], fun j => by rw [State.session_of_apart h],
    fun j => by rw [State.session_of_apart h], State.holdsReceiving_of_slots fun k => (congrArg (fun v : State => v.slot k) h :)⟩

theorem State.evaluateWindow_windowWork (s : State) (i : SessionIx) : WindowWork i s (s.evaluateWindow i) := by
  have started (t : State) (d : Nat) (c : Bool) : WindowWork i t (t.evaluateStart i d c) := by
    unfold State.evaluateStart
    extract_lets x j timed
    have untimed : WindowWork i t timed := .modSession fun _ => ⟨rfl, rfl⟩
    split
    · exact untimed.trans (timed.overdraw_windowWork i)
    · exact untimed.trans (.modSession fun _ => ⟨rfl, rfl⟩)
  have lived (t : State) (d : Nat) (c : Bool) : WindowWork i t (t.evaluateLive i d c) := by
    unfold State.evaluateLive
    extract_lets x marked timed
    have marks : WindowWork i t marked := t.markOverLow_windowWork i
    have accrued : WindowWork i t timed := marks.trans (.modSession fun _ => ⟨rfl, rfl⟩)
    split
    · split
      · exact marks.trans (marked.overdraw_windowWork i)
      · split
        · exact accrued.trans (timed.overdraw_windowWork i)
        · exact accrued
    · exact .refl t
  have kept : WindowWork i s (s.windowKept i (s.drawOf i) (s.contended i)) := .modSession fun _ => ⟨rfl, rfl⟩
  unfold State.evaluateWindow
  split
  · split
    · split
      · exact kept
      · exact (kept.trans (started _ _ _)).trans (.of_apart (settle_apart s _))
      · exact (kept.trans (lived _ _ _)).trans (.of_apart (settle_apart s _))
    · exact kept
  · exact .refl s

/-- What the evaluation of a list of contenders leaves. -/
theorem State.foldl_evaluateWindow (l : List SessionIx) (s : State) :
    (∀ j, j ∉ l → ((l.foldl State.evaluateWindow s).session j).apartFromOthers = (s.session j).apartFromOthers) ∧
    (∀ j, ((l.foldl State.evaluateWindow s).session j).draw.nextBytes = (s.session j).draw.nextBytes) ∧
    (∀ j, ((l.foldl State.evaluateWindow s).session j).draw.nextMark = (s.session j).draw.nextMark) ∧
    ∀ j, (l.foldl State.evaluateWindow s).holdsReceiving j = s.holdsReceiving j := by
  induction l generalizing s with
  | nil => exact ⟨fun _ _ => rfl, fun _ => rfl, fun _ => rfl, fun _ => rfl⟩
  | cons i l ih =>
    obtain ⟨others, nextBytes, nextMark, receiving⟩ := ih (s.evaluateWindow i)
    have work := s.evaluateWindow_windowWork i
    refine ⟨fun j hj => ?_, fun j => (nextBytes j).trans (work.nextBytes j), fun j => (nextMark j).trans (work.nextMark j),
      fun j => (receiving j).trans (work.receiving j)⟩
    obtain ⟨other, rest⟩ := not_or.mp (mt List.mem_cons.mpr hj)
    exact (others j rest).trans (work.others j other)

/-! The order of a window's contenders. -/

theorem windowOrder_nodup (named : List SessionIx) : (windowOrder named).Nodup := by
  refine List.nodup_append'.mpr ⟨List.nodup_dedup named, allSessions_nodup.filter _, fun i named' other => ?_⟩
  simp only [List.mem_filter, Bool.not_eq_true', List.contains_eq_mem, decide_eq_false_iff_not] at other
  exact other.2 (List.mem_dedup.mp named')

theorem mem_windowOrder (named : List SessionIx) (i : SessionIx) : i ∈ windowOrder named := by
  simp only [windowOrder, List.mem_append, List.mem_dedup, List.mem_filter, mem_allSessions, true_and, Bool.not_eq_true',
    List.contains_eq_mem, decide_eq_false_iff_not]
  exact Decidable.em _

theorem prefix_windowOrder {named : List SessionIx} (distinct : named.Nodup) : named <+: windowOrder named := by
  rw [windowOrder, distinct.dedup]
  exact List.prefix_append _ _

theorem exec_drawWindow (released : s.resetAsserted = false) (order : List SessionIx) : exec (.drawWindow order) s = .next
    (if s.time.toNat % 100 = 0 then s.endWindow order else s) := by
  simp only [exec, execDrawWindow, State.unlessReset_of_released released]

/-- The state behind a window end, in the words of R130. -/
theorem State.endWindow_session (order : List SessionIx) (j : SessionIx) : (s.endWindow order).session j =
    { ((windowOrder order).foldl State.evaluateWindow s).session j with
      draw := { (((windowOrder order).foldl State.evaluateWindow s).session j).draw with
        windowBytes := (s.session j).draw.nextBytes
        receivingMark := (s.session j).draw.nextMark || s.holdsReceiving j
        nextBytes := 0, nextMark := false } } := by
  obtain ⟨-, nextBytes, nextMark, receiving⟩ := State.foldl_evaluateWindow (windowOrder order) s
  have cleared := State.clearWindows_session ((windowOrder order).foldl State.evaluateWindow s) j
  have apart : ∀ v : State, ({ v with windowDue := false } : State).session j = v.session j := fun _ => rfl
  rw [State.endWindow, apart, cleared, DrawState.nextWindow, nextBytes, nextMark, receiving]

/-- A supervised LIVE contender that draws above its limits on a contended window is in overdraw (R136, R138, R139). -/
theorem State.evaluateWindow_overdrawn {p : Profile} {z : Shares} {used : Bool} (streaming : (s.session i).admin = .streaming)
    (alone : (s.session i).role = .independent) (profile : (s.session i).profile = some p)
    (shares : (s.session i).shares = some z) (live : p.drawKind = .live) (watching : (s.session i).draw.phase = .watching)
    (settled : (s.session i).draw.settled = true) (mark : (s.session i).draw.receivingMark = true)
    (contended : s.contended i = true) (ordered : z.share * s.setup.low / 16 ≤ z.share * s.setup.high / 16)
    (above : z.share * s.setup.high / 16 < (s.session i).draw.windowBytes * 8 / 100)
    (hused : used = true ↔ p.retryLimit ≤ (s.session i).draw.retriesUsed) :
    ((s.evaluateWindow i).session i).draw.cap = some (s.session i).demotedRung ∧
    ((s.evaluateWindow i).session i).stats.overdraws = (s.session i).stats.overdraws + 1 ∧
    ((s.evaluateWindow i).session i).draw.overTime = 0 ∧ ((s.evaluateWindow i).session i).draw.quietRun = 0 ∧
    ((s.evaluateWindow i).session i).draw.penaltyMark = true ∧
    ((s.evaluateWindow i).session i).draw.phase = (if used then .latched else .retryWait) ∧
    ((s.evaluateWindow i).session i).draw.retryTimer = (if used then none else some (later s.time p.retryInterval)) ∧
    ((s.evaluateWindow i).session i).causes = (s.session i).causes ||| (if used then Cause.latched else Cause.overdraw).bit := by
  have members : s.streamingMembers i = [i] := by simp [State.streamingMembers, Session.followers, alone]
  have evaluated : s.evaluates i = true := by
    rw [State.evaluates_eq rfl profile rfl]
    simp [streaming, Session.follows, alone, live, watching, settled]
  have on : s.onWindow i = true := by simp [State.onWindow, members, mark]
  have draw : s.drawOf i = (s.session i).draw.windowBytes * 8 / 100 := by simp [State.drawOf, members]
  obtain ⟨k, hk⟩ : ∃ k, k = (s.windowKept i ((s.session i).draw.windowBytes * 8 / 100) true).markOverLow i := ⟨_, rfl⟩
  have record : k.session i = { s.session i with draw := { (s.session i).draw with
      settled := true
      lastWindow := some { windowEnd := s.time, draw := (s.session i).draw.windowBytes * 8 / 100, contended := true } } } := by
    rw [← State.windowKept_session, hk, State.markOverLow_session]
  have time : k.time = s.time := by
    rw [hk, State.markOverLow_eq rfl]
    rfl
  have setup : (s.windowKept i ((s.session i).draw.windowBytes * 8 / 100) true).setup = s.setup := rfl
  have rule := (State.evaluateWindow_of_on evaluated on draw contended profile).2 live
  rw [State.evaluateLive_eq (z := z) (by rw [State.windowKept_session]; exact shares) rfl rfl,
    if_pos ⟨rfl, lt_of_le_of_lt ordered above⟩, setup, if_pos above, ← hk] at rule
  have outcome : ((s.evaluateWindow i).session i).apartFromOthers = Session.apartFromOthers
      { (k.session i).overdrawn s.time (s.session i).demotedRung with
        causes := ((k.session i).overdrawn s.time (s.session i).demotedRung).causes |||
          (if used then Cause.latched else Cause.overdraw).bit } := by
    have demoted : (k.session i).demotedRung = (s.session i).demotedRung := by rw [record]; rfl
    rw [rule, State.session_of_apart (settle_apart s _), State.overdraw_apart, if_pos rfl, time, demoted,
      Session.overdrawCause_eq (p := p) (by rw [record]; exact profile) (by rw [record]; exact hused)]
  rw [Session.overdrawn_eq (p := p) (by rw [record]; exact profile) (by rw [record]; exact hused), record] at outcome
  exact ⟨(congrArg (fun x : Session => x.draw.cap) outcome :), (congrArg (fun x : Session => x.stats.overdraws) outcome :),
    (congrArg (fun x : Session => x.draw.overTime) outcome :), (congrArg (fun x : Session => x.draw.quietRun) outcome :),
    (congrArg (fun x : Session => x.draw.penaltyMark) outcome :), (congrArg (fun x : Session => x.draw.phase) outcome :),
    (congrArg (fun x : Session => x.draw.retryTimer) outcome :), (congrArg (fun x : Session => x.causes) outcome :)⟩

end

/-- Settles O48: the order, the next window's quantities, and the contender evaluated first. -/
theorem drawWindowIsTaken : Obligations.DrawWindowIsTaken := by
  intro s order released
  refine ⟨fun off => by rw [exec_drawWindow released, if_neg off], fun at100 => ?_⟩
  refine ⟨s.endWindow order, by rw [exec_drawWindow released, if_pos at100], rfl,
    ⟨windowOrder order, _, windowOrder_nodup order, mem_windowOrder order, prefix_windowOrder, rfl, ?_,
      State.endWindow_session order⟩, ?_⟩
  · obtain ⟨v, hv⟩ : ∃ v, v = (windowOrder order).foldl State.evaluateWindow s := ⟨_, rfl⟩
    have cleared : RecordsOnly v v.clearWindows := State.clearWindows_records v
    rw [State.endWindow, ← hv, cleared]
  intro i rest p z named distinct streaming alone profile shares live watching settled mark contended ordered above
  obtain ⟨tail, whole⟩ : ∃ tail, windowOrder order = i :: tail := by
    obtain ⟨tail, htail⟩ := prefix_windowOrder distinct
    exact ⟨rest ++ tail, by rw [← htail, named]; rfl⟩
  have fresh : i ∉ tail := (List.nodup_cons.mp (whole ▸ windowOrder_nodup order)).1
  have others := (State.foldl_evaluateWindow tail (s.evaluateWindow i)).1 i fresh
  have session := State.endWindow_session (s := s) order i
  rw [whole, List.foldl_cons] at session
  have reads {α : Type} (F : Session → α) (cleared : ∀ x, F x = F x.apartFromOthers) :
      F ((tail.foldl State.evaluateWindow (s.evaluateWindow i)).session i) = F ((s.evaluateWindow i).session i) := by
    rw [cleared, others, ← cleared]
  obtain ⟨cap, overdraws, overTime, quietRun, penaltyMark, phase, timer, causes⟩ :=
    State.evaluateWindow_overdrawn (used := decide (p.retryLimit ≤ (s.session i).draw.retriesUsed)) streaming alone profile shares
      live watching settled mark contended ordered above decide_eq_true_iff
  rw [session]
  refine ⟨(reads (fun x => x.draw.cap) fun _ => rfl).trans cap, (reads (fun x => x.stats.overdraws) fun _ => rfl).trans overdraws,
    (reads (fun x => x.draw.overTime) fun _ => rfl).trans overTime, (reads (fun x => x.draw.quietRun) fun _ => rfl).trans quietRun,
    (reads (fun x => x.draw.penaltyMark) fun _ => rfl).trans penaltyMark, fun used => ?_, fun left => ?_⟩
  · rw [decide_eq_true used] at phase timer causes
    refine ⟨(reads (fun x => x.draw.phase) fun _ => rfl).trans phase, (reads (fun x => x.draw.retryTimer) fun _ => rfl).trans timer, ?_⟩
    rw [reads (fun x => x.causes) fun _ => rfl, causes, CauseSet.has_or, if_pos rfl, Cause.has_bit, Bool.or_true]
  · rw [decide_eq_false (Nat.not_le.mpr left)] at phase timer causes
    refine ⟨(reads (fun x => x.draw.phase) fun _ => rfl).trans phase, (reads (fun x => x.draw.retryTimer) fun _ => rfl).trans timer, ?_⟩
    rw [reads (fun x => x.causes) fun _ => rfl, causes, CauseSet.has_or, if_neg Bool.false_ne_true, Cause.has_bit, Bool.or_true]

end Sys2Proof.Machine

/-! SUPPORT. Eligibility, the arbiter's choice and the repetition of grants in an examination (R111 to R115). -/

namespace Sys2Proof.Machine

section
variable {s t : State} {i j : SessionIx}

/-! Eligibility (R111). -/

theorem Session.outstandingLimit_of_profile {x : Session} {p : Profile} (profile : x.profile = some p) :
    x.outstandingLimit = p.outstandingLimit := by simp [Session.outstandingLimit, profile]

theorem Session.target_of_eff {x : Session} {e : Effective} (eff : x.eff = some e) : x.target = e.target := by
  simp [Session.target, eff]

theorem State.hasRoom_iff {p : Profile} (profile : (s.session i).profile = some p) :
    s.hasRoom i = true ↔ s.Admits i p.outstandingLimit := by
  have own : (s.ownSlots i).length = (s.slotsOf i).length := by rw [State.ownSlots_eq, List.length_map]
  simp only [State.hasRoom, State.Admits, State.occupiedCount_eq, own, Session.outstandingLimit_of_profile profile,
    Bool.and_eq_true, decide_eq_true_eq, Option.isNone_iff_eq_none, and_assoc]

theorem State.eligible_iff {p : Profile} {e : Effective} (profile : (s.session i).profile = some p)
    (eff : (s.session i).eff = some e) : s.eligible i = true ↔ s.Admits i p.outstandingLimit ∧ s.projection i < e.target := by
  rw [State.eligible, Bool.and_eq_true, State.hasRoom_iff profile, decide_eq_true_eq, Session.target_of_eff eff,
    State.projection_eq]

/-! The arbiter (R115). -/

/-- The rank of a session's ask, the lowest first: PANIC before the others, then the class, then the projected buffer. -/
def State.askRank (s : State) (i : SessionIx) : Nat ×ₗ Nat ×ₗ Nat :=
  toLex (if s.asksInPanic i then 0 else 1, toLex ((s.session i).classRank, s.projected i))

theorem State.askRank_lt_iff : s.askRank i < s.askRank j ↔ s.RanksBefore i j := by
  have cls : ∀ a : SessionIx, ((s.session a).profile.elim 3 fun p => ArbClass.rank p.cls) = (s.session a).classRank := fun _ => rfl
  have panics : ∀ a : SessionIx, s.zone (s.judged a).1 = .panic ↔ s.asksInPanic a = true := fun a => by
    rw [State.asksInPanic, decide_eq_true_eq]
  simp only [State.askRank, State.RanksBefore, State.projection_eq, Prod.Lex.toLex_lt_toLex, cls, panics]
  cases s.asksInPanic i <;> cases s.asksInPanic j <;> simp

theorem State.ranksBefore_iff : s.ranksBefore i j = true ↔ s.askRank i < s.askRank j := by
  simp only [State.askRank, State.ranksBefore, Prod.Lex.toLex_lt_toLex]
  by_cases same : (s.session i).classRank = (s.session j).classRank
  · cases s.asksInPanic i <;> cases s.asksInPanic j <;> simp [same]
  · cases s.asksInPanic i <;> cases s.asksInPanic j <;> simp [same]

/-- The ask that comes first among the eligible ones of a queue (R112, R115). -/
def State.IsFirst (s : State) (queue : List Ask) (a : Ask) : Prop :=
  ∃ before behind, queue = before ++ a :: behind ∧ s.eligible a.session = true ∧
    (∀ c ∈ before, s.eligible c.session = true → s.askRank a.session < s.askRank c.session) ∧
    ∀ c ∈ behind, s.eligible c.session = true → ¬ s.askRank c.session < s.askRank a.session

theorem State.not_isFirst_nil (a : Ask) : ¬ s.IsFirst [] a := by
  rintro ⟨before, behind, split, -⟩
  exact List.append_ne_nil_of_right_ne_nil before (List.cons_ne_nil a behind) split.symm

/-- The first of a queue is its head, or the first of the rest, when it ranks before an eligible head. -/
theorem State.isFirst_cons_iff {q a : Ask} {rest : List Ask} : s.IsFirst (q :: rest) a ↔
    (a = q ∧ s.eligible q.session = true ∧
      ∀ c ∈ rest, s.eligible c.session = true → ¬ s.askRank c.session < s.askRank q.session) ∨
    (s.IsFirst rest a ∧ (s.eligible q.session = true → s.askRank a.session < s.askRank q.session)) := by
  constructor
  · rintro ⟨before, behind, split, eligible, first, last⟩
    cases before with
    | nil =>
      obtain ⟨rfl, rfl⟩ := List.cons.inj split
      exact .inl ⟨rfl, eligible, last⟩
    | cons b before =>
      obtain ⟨rfl, rfl⟩ := List.cons.inj split
      exact .inr ⟨⟨before, behind, rfl, eligible, fun c hc => first c (List.mem_cons_of_mem _ hc), last⟩,
        first q List.mem_cons_self⟩
  · rintro (⟨rfl, eligible, last⟩ | ⟨⟨before, behind, rfl, eligible, first, last⟩, head⟩)
    · exact ⟨[], rest, rfl, eligible, nofun, last⟩
    · refine ⟨q :: before, behind, rfl, eligible, fun c hc => ?_, last⟩
      rcases List.mem_cons.mp hc with rfl | hc
      · exact head
      · exact first c hc

/-- The first of a queue ranks no lower than any eligible ask of it. -/
theorem State.IsFirst.le {queue : List Ask} {a c : Ask} (h : s.IsFirst queue a) (hc : c ∈ queue)
    (eligible : s.eligible c.session = true) : s.askRank a.session ≤ s.askRank c.session := by
  obtain ⟨before, behind, rfl, -, first, last⟩ := h
  rcases List.mem_append.mp hc with hc | hc
  · exact (first c hc eligible).le
  · rcases List.mem_cons.mp hc with rfl | hc
    · exact le_rfl
    · exact not_lt.mp (last c hc eligible)

theorem State.IsFirst.mem {queue : List Ask} {a : Ask} (h : s.IsFirst queue a) : a ∈ queue ∧ s.eligible a.session = true := by
  obtain ⟨before, behind, rfl, eligible, -, -⟩ := h
  exact ⟨List.mem_append_right _ List.mem_cons_self, eligible⟩

theorem State.bestAsk_eq_none_iff {queue : List Ask} : s.bestAsk queue = none ↔ queue = [] := by
  cases queue with
  | nil => simp [State.bestAsk]
  | cons a rest =>
    simp only [State.bestAsk, reduceCtorEq, iff_false]
    split
    · simp
    · split <;> simp

theorem State.bestAsk_eq_some_iff (queue : List Ask) (a : Ask) :
    s.bestAsk (queue.filter fun c => s.eligible c.session) = some a ↔ s.IsFirst queue a := by
  induction queue generalizing a with
  | nil => simp [State.bestAsk, State.not_isFirst_nil]
  | cons q rest ih =>
    rw [State.isFirst_cons_iff]
    by_cases eligible : s.eligible q.session = true
    · rw [List.filter_cons_of_pos (by exact eligible), State.bestAsk]
      cases best : s.bestAsk (rest.filter fun c => s.eligible c.session) with
      | none =>
        have others : ∀ c ∈ rest, ¬ s.eligible c.session = true := List.filter_eq_nil_iff.mp (State.bestAsk_eq_none_iff.mp best)
        have unfirst : ¬ s.IsFirst rest a := fun h => others a h.mem.1 h.mem.2
        simp only [Option.some.injEq, unfirst, false_and, or_false]
        exact ⟨fun h => ⟨h.symm, eligible, fun c hc on => absurd on (others c hc)⟩, fun h => h.1.symm⟩
      | some b =>
        have first : s.IsFirst rest b := (ih b).mp best
        have unique : ∀ c, s.IsFirst rest c → c = b := fun c h => Option.some.inj (((ih c).mpr h).symm.trans best)
        simp only [State.ranksBefore_iff]
        split
        · next before =>
          rw [Option.some.injEq]
          refine ⟨fun h => .inr ⟨h ▸ first, fun _ => h ▸ before⟩, ?_⟩
          rintro (⟨rfl, -, last⟩ | ⟨h, -⟩)
          · exact absurd before (last b first.mem.1 first.mem.2)
          · exact (unique a h).symm
        · next behind =>
          rw [Option.some.injEq]
          constructor
          · rintro rfl
            exact .inl ⟨rfl, eligible, fun c hc on lower => behind (lt_of_le_of_lt (first.le hc on) lower)⟩
          · rintro (⟨rfl, -, -⟩ | ⟨h, before⟩)
            · rfl
            · exact absurd (unique a h ▸ before eligible) behind
    · rw [List.filter_cons_of_neg (by exact eligible), ih]
      simp [eligible]

theorem State.chooseAsk_eq_some_iff {a : Ask} : s.chooseAsk = some a ↔ s.IsFirst s.gate.askQueue a :=
  State.bestAsk_eq_some_iff _ a

theorem State.chooseAsk_eq_none_iff : s.chooseAsk = none ↔ ∀ a ∈ s.gate.askQueue, s.eligible a.session = false := by
  rw [State.chooseAsk, State.bestAsk_eq_none_iff, List.filter_eq_nil_iff]
  simp only [Bool.not_eq_true]

end

end Sys2Proof.Machine

/-! SUPPORT. A grant, its repetition in an examination, and the drain timers (R112 to R117); O41. -/

namespace Sys2Proof.Machine

/-! The tag and the slot of a grant (R116). -/

theorem takeTag_eq {used : List Byte} {n skipped : Nat} {next : Byte} (fuel : skipped < n)
    (taken : ∀ j, j < skipped → next + BitVec.ofNat 8 j ∈ used) (free : next + BitVec.ofNat 8 skipped ∉ used) :
    takeTag n used next = next + BitVec.ofNat 8 skipped := by
  induction n generalizing next skipped with
  | zero => exact absurd fuel (Nat.not_lt_zero _)
  | succ n ih =>
    cases skipped with
    | zero =>
      have first : next ∉ used := by simpa using free
      simp [takeTag, first]
    | succ m =>
      have first : next ∈ used := by simpa using taken 0 (Nat.succ_pos m)
      have shift : ∀ j, next + 1 + BitVec.ofNat 8 j = next + BitVec.ofNat 8 (j + 1) := fun j => by
        rw [BitVec.ofNat_add, BitVec.add_assoc, BitVec.add_comm (BitVec.ofNat 8 j)]
        rfl
      have rest := ih (next := next + 1) (skipped := m) (Nat.lt_of_succ_lt_succ fuel)
        (fun j hj => shift j ▸ taken (j + 1) (Nat.succ_lt_succ hj)) (shift m ▸ free)
      rw [takeTag, if_pos (by simpa using first), rest, shift]

/-- The first element of an ascending list that meets a test. -/
theorem find?_of_ascending {α : Type} [LinearOrder α] {l : List α} {p : α → Bool} {k : α} (ascending : l.Pairwise (· < ·))
    (listed : k ∈ l) (meets : p k = true) (first : ∀ m, m < k → p m = false) : l.find? p = some k := by
  induction l with
  | nil => exact absurd listed List.not_mem_nil
  | cons a l ih =>
    obtain ⟨above, ascending⟩ := List.pairwise_cons.mp ascending
    rcases List.mem_cons.mp listed with rfl | listed
    · exact List.find?_cons_of_pos meets
    · rw [List.find?_cons_of_neg (by simp [first a (above k listed)]), ih ascending listed]

section
variable {s t w : State} {i j : SessionIx} {k : SlotIx} {a : Ask} {tag : Byte}

theorem State.freeSlot_eq_some (free : s.slot k = none) (first : ∀ m, m < k → s.slot m ≠ none) : s.freeSlot = some k :=
  find?_of_ascending (by decide) (mem_allSlots k) (by simp [free]) fun m hm => by
    simpa using Option.ne_none_iff_isSome.mp (first m hm)

theorem State.freeSlot_ne_none (room : s.occupiedCount < 8) : s.freeSlot ≠ none := by
  intro full
  have occupied : ∀ k ∈ allSlots, (s.slot k).isSome = true := fun k hk => by
    simpa [Option.isSome_iff_ne_none] using List.find?_eq_none.mp full k hk
  rw [State.occupiedCount, List.filter_eq_self.mpr occupied] at room
  exact absurd room (by decide)

theorem State.freeSlot_congr (h : ∀ k, t.slot k = s.slot k) : t.freeSlot = s.freeSlot := by
  simp only [State.freeSlot, h]

theorem State.slotsOf_congr (h : ∀ k, t.slot k = s.slot k) (i : SessionIx) : t.slotsOf i = s.slotsOf i := by
  simp only [State.slotsOf, h]

/-- The tag that a session's next grant takes (R116 step 4). -/
theorem State.takeTag_eq {skipped : Nat} (fuel : skipped < 8)
    (htag : tag = (s.session i).nextTag + BitVec.ofNat 8 skipped) (free : ∀ m x, s.slot m = some x → x.session = i → x.tag ≠ tag)
    (taken : ∀ j, j < skipped → ∃ m x, s.slot m = some x ∧ x.session = i ∧ x.tag = (s.session i).nextTag + BitVec.ofNat 8 j) :
    takeTag 8 ((s.slotsOf i).map fun p => p.2.tag) (s.session i).nextTag = tag := by
  rw [htag]
  refine Machine.takeTag_eq fuel (fun j hj => ?_) fun used => ?_
  · obtain ⟨m, x, held, own, same⟩ := taken j hj
    exact List.mem_map.mpr ⟨(m, x), State.mem_slotsOf.mpr ⟨held, own⟩, same⟩
  · obtain ⟨⟨m, x⟩, listed, same⟩ := List.mem_map.mp used
    obtain ⟨held, own⟩ := State.mem_slotsOf.mp listed
    exact free m x held own (same.trans htag.symm)

/-! A grant (R116). -/

/-- The state behind the judgement of a grant. -/
def State.granting (s : State) (i : SessionIx) : State := (s.removeAsk i).judge i

theorem State.granting_slot (s : State) (i : SessionIx) (k : SlotIx) : (s.granting i).slot k = s.slot k := by
  have judged : RecordsOnly (s.removeAsk i) (s.granting i) := State.judge_records _ i
  exact judged.shares.slot k

/-- A field of a record that no judgement moves is the one before the grant. -/
theorem State.granting_keeps {α : Type} (F : Session → α) (apart : ∀ x, F x = F x.apartFromRung) (j : SessionIx) :
    F ((s.granting i).session j) = F (s.session j) :=
  (State.judge_onlyRungs (s.removeAsk i) i).keeps F apart j

/-- What a grant fills, before the draw monitor and the player are told. -/
def State.granted (s : State) (a : Ask) (k : SlotIx) (tag : Byte) : State := (s.granting a.session).fillSlot a k tag

theorem State.grant_of_free (free : s.freeSlot = some k)
    (htag : takeTag 8 ((s.slotsOf a.session).map fun p => p.2.tag) (s.session a.session).nextTag = tag) :
    s.grant a = (((s.granted a k tag).tellGrant a.session).originate
      (.grant ((s.granting a.session).grantNote a k tag))).1 := by
  have slots := s.granting_slot a.session
  have free' : (s.granting a.session).freeSlot = some k := (State.freeSlot_congr slots).trans free
  have next : ((s.granting a.session).session a.session).nextTag = (s.session a.session).nextTag :=
    State.granting_keeps Session.nextTag (fun _ => rfl) _
  have tag' : takeTag 8 (((s.granting a.session).slotsOf a.session).map fun p => p.2.tag)
      ((s.granting a.session).session a.session).nextTag = tag := by
    rw [State.slotsOf_congr slots, next, htag]
  have judged : (s.removeAsk a.session).judge a.session = s.granting a.session := rfl
  simp only [State.grant, judged, free', tag']
  rfl

theorem State.fillSlot_session (k : SlotIx) (tag : Byte) (j : SessionIx) : (w.fillSlot a k tag).session j =
    if j = a.session then { w.session j with
      nextTag := tag + 1, expiredTags := (w.session j).expiredTags.filter fun t => decide (t ≠ tag) } else w.session j := by
  unfold State.fillSlot
  extract_lets x slot tagged
  exact (State.modSession_session (w.setSlot k (some slot)) a.session j _ : tagged.session j = _)

/-- The slot that a grant fills (R116, R117). -/
theorem State.fillSlot_gate {x : Session} {l : Ladder} {e : Effective} {r dry : Nat} (hx : w.session a.session = x)
    (published : x.published = some l) (eff : x.eff = some e) (rung : x.rung = some r) (hdry : dry = x.level w.time * 8 / e.speed) :
    (w.fillSlot a k tag).gate =
      { (w.setSlot k (some
          { session := a.session, tag := tag, segment := a.segment, duration := a.duration, rung := r, bitrate := l.bitrate r
            generation := x.generation, grantTime := w.time
            deadline := if max a.duration dry < max (4 * a.duration) 20000 then some (later w.time (max a.duration dry)) else none
            expiry := later w.time (max (4 * a.duration) 20000), missed := false, bytes := 0, phase := .granted
            overLow := false, order := w.gate.grantsMade })).gate with
        grantsMade := w.gate.grantsMade + 1
        spacingHold := if w.setup.grantSpacing = 0 then w.gate.spacingHold else some (later w.time w.setup.grantSpacing) } := by
  have dryTime : x.dryTime w.time = dry := by rw [Session.dryTime, Session.speed_of_eff eff, hdry]
  have deadline : (deadlineOffset a.duration dry).map (later w.time) =
      if max a.duration dry < max (4 * a.duration) 20000 then some (later w.time (max a.duration dry)) else none := by
    unfold deadlineOffset expiryOffset
    split <;> rfl
  simp only [State.fillSlot, hx, rung, Option.getD_some, Session.ladder_of_published published, dryTime, deadline]
  rfl

/-- A grant's note (R116). -/
theorem State.grantNote_eq {x : Session} {l : Ladder} {e : Effective} {r dry : Nat} (hx : w.session a.session = x)
    (published : x.published = some l) (eff : x.eff = some e) (rung : x.rung = some r) (hdry : dry = x.level w.time * 8 / e.speed) :
    w.grantNote a k tag =
      { session := a.session, tag := tag, segment := a.segment, slot := k, rung := r, bitrate := l.bitrate r,
        generation := x.generation, expiryOffset := max (4 * a.duration) 20000,
        deadlineOffset := if max a.duration dry < max (4 * a.duration) 20000 then some (max a.duration dry) else none } := by
  have dryTime : x.dryTime w.time = dry := by rw [Session.dryTime, Session.speed_of_eff eff, hdry]
  simp only [State.grantNote, hx, rung, Option.getD_some, Session.ladder_of_published published, dryTime]
  rfl

/-- The draw monitor opens a START staircase that is marked to open (R116 step 7, R134). -/
theorem State.tellGrant_session (s : State) (i j : SessionIx) : (s.tellGrant i).session j =
    if s.contender i = some j ∧ (s.session j).drawKind = .start ∧ (s.session j).draw.phase = .watching ∧
      (s.session j).draw.openMark = true then (s.session j).openStaircase s.time else s.session j := by
  unfold State.tellGrant
  cases contender : s.contender i with
  | none => simp
  | some c =>
    by_cases same : j = c
    · subst same
      simp only [Bool.and_eq_true, decide_eq_true_eq, true_and, and_assoc]
      split
      · exact State.modSession_session_self _ _ _
      · rfl
    · have other : ¬ c = j := fun h => same h.symm
      simp only [Option.some.injEq, other, false_and, if_false]
      split
      · exact State.modSession_session_ne _ _ _ _ same
      · rfl

/-! The repetition of grants (R112). -/

theorem State.grant_setup (s : State) (a : Ask) : (s.grant a).setup = s.setup := by
  have work : GateWork s (s.grant a) := s.grant_gateWork a
  rw [work]

theorem State.grant_askQueue (s : State) (a : Ask) :
    (s.grant a).gate.askQueue = s.gate.askQueue.filter fun c => decide (c.session ≠ a.session) := by
  have judged : (s.granting a.session).gate.askQueue = s.gate.askQueue.filter fun c => decide (c.session ≠ a.session) := by
    have records : RecordsOnly (s.removeAsk a.session) (s.granting a.session) := State.judge_records _ _
    rw [records]
    rfl
  unfold State.grant
  extract_lets v tag
  split
  · exact judged
  · next k _ =>
    extract_lets filled
    have told : RecordsOnly filled (filled.tellGrant a.session) := filled.tellGrant_records _
    have gate : ((filled.tellGrant a.session).originate (.grant (v.grantNote a k tag))).1.gate = filled.gate := by
      have reported := (congrArg State.gate (State.originate_apart (filled.tellGrant a.session) (.grant (v.grantNote a k tag))) :)
      rw [told] at reported ⊢
      exact reported
    rw [gate]
    exact judged

/-- Behind a grant the queue is shorter. -/
theorem State.grant_askQueue_length (chosen : s.chooseAsk = some a) :
    (s.grant a).gate.askQueue.length < s.gate.askQueue.length := by
  rw [State.grant_askQueue]
  refine List.length_filter_lt_length_iff_exists.mpr ⟨a, (State.chooseAsk_eq_some_iff.mp chosen).mem.1, by simp⟩

/-- A fuel of the queue's length suffices. -/
theorem State.grantLoop_fuel (n : Nat) : ∀ (s : State) (m : Nat), s.gate.askQueue.length ≤ n → s.gate.askQueue.length ≤ m →
    State.grantLoop n s = State.grantLoop m s := by
  have still : ∀ (s : State) (m : Nat), s.chooseAsk = none → State.grantLoop m s = s := fun s m none' => by
    cases m <;> simp [State.grantLoop, none']
  induction n with
  | zero =>
    intro s m hn _
    have empty : s.gate.askQueue = [] := List.length_eq_zero_iff.mp (Nat.le_zero.mp hn)
    have none' : s.chooseAsk = none := State.chooseAsk_eq_none_iff.mpr (by simp [empty])
    rw [still s m none', still s 0 none']
  | succ n ih =>
    intro s m hn hm
    cases chosen : s.chooseAsk with
    | none => rw [still s m chosen, still s _ chosen]
    | some a =>
      have shorter := State.grant_askQueue_length chosen
      obtain ⟨m, rfl⟩ : ∃ k, m = k + 1 := ⟨m - 1, by omega⟩
      simp only [State.grantLoop, chosen]
      rw [ih (s.grant a) m (by omega) (by omega)]

theorem State.grantLoop_of_none (h : s.chooseAsk = none) (n : Nat) : State.grantLoop n s = s := by
  cases n <;> simp [State.grantLoop, h]

theorem State.grantLoop_of_some (h : s.chooseAsk = some a) : State.grantLoop s.gate.askQueue.length s =
    if s.setup.grantSpacing = 0 then State.grantLoop (s.grant a).gate.askQueue.length (s.grant a) else s.grant a := by
  have shorter := State.grant_askQueue_length h
  obtain ⟨m, hm⟩ : ∃ k, s.gate.askQueue.length = k + 1 := ⟨s.gate.askQueue.length - 1, by omega⟩
  rw [hm]
  simp only [State.grantLoop, h]
  rw [State.grantLoop_fuel m (s.grant a) (s.grant a).gate.askQueue.length (by omega) le_rfl]

end

end Sys2Proof.Machine

/-! SUPPORT. The end of an examination (R112, R113), and a grant in the words of R116; O41. -/

namespace Sys2Proof.Machine

section
variable {s t : State} {i j : SessionIx} {k : SlotIx} {a : Ask} {tag : Byte}

/-! The drain timers (R113). -/

theorem State.setDrainTimers_session (s : State) (j : SessionIx) :
    s.setDrainTimers.session j = { s.session j with drainTimer := s.drainTimerOf j } := by
  unfold State.setDrainTimers
  exact State.foldl_allSessions_session (fun i x => { x with drainTimer := s.drainTimerOf i }) s j

theorem State.askOf_isSome_iff : (s.askOf i).isSome = true ↔ ∃ a ∈ s.gate.askQueue, a.session = i := by
  simp [State.askOf]

theorem State.drainTimerOf_of_no_ask (none' : ∀ a ∈ s.gate.askQueue, a.session ≠ i) : s.drainTimerOf i = none := by
  have idle : (s.askOf i).isSome = false := by
    rw [← Bool.not_eq_true, State.askOf_isSome_iff]
    rintro ⟨a, ha, own⟩
    exact none' a ha own
  simp [State.drainTimerOf, idle]

theorem State.drainTimerOf_of_ask {e : Effective} (eff : (s.session i).eff = some e) (asks : ∃ a ∈ s.gate.askQueue, a.session = i) : s.drainTimerOf i =
      if s.hasRoom i = true ∧ e.target ≤ s.projection i ∧ (s.session i).buffer.playback = .playing ∧
        s.projection i + 1 - e.target ≤ (s.session i).level s.time then
        some (later s.time (ceilDiv ((s.projection i + 1 - e.target) * 8) e.speed))
      else none := by
  have queued := State.askOf_isSome_iff.mpr asks
  simp only [State.drainTimerOf, queued, Session.target_of_eff eff, Session.speed_of_eff eff, ← State.projection_eq,
    Bool.true_and, Bool.and_eq_true, decide_eq_true_eq, and_assoc]
  by_cases full : e.target ≤ s.projection i
  · rw [Nat.sub_add_comm full]
  · simp [full]

theorem State.eligible_reads (s : State) (i : SessionIx) : s.eligible i = true ↔ (s.occupiedCount < s.setup.maxOutstanding ∧
    (s.slotsOf i).length < (s.session i).outstandingLimit ∧ s.gate.spacingHold = none) ∧
    (s.session i).level s.time + ((s.slotsOf i).map fun p => p.2.duration).sum < (s.session i).target := by
  simp only [State.eligible, State.hasRoom, Bool.and_eq_true, decide_eq_true_eq, Option.isNone_iff_eq_none, and_assoc]
  rw [State.projected]

/-- The drain timers have no part in eligibility. -/
theorem State.setDrainTimers_eligible (s : State) (i : SessionIx) : s.setDrainTimers.eligible i = s.eligible i := by
  have records : RecordsOnly s s.setDrainTimers := s.setDrainTimers_records
  have slots : ∀ k, s.setDrainTimers.slot k = s.slot k := records.shares.slot
  have gate : s.setDrainTimers.gate = s.gate := by rw [records]
  have setup : s.setDrainTimers.setup = s.setup := by rw [records]
  have time : s.setDrainTimers.time = s.time := by rw [records]
  have count : s.setDrainTimers.occupiedCount = s.occupiedCount := by simp only [State.occupiedCount, slots]
  have record := s.setDrainTimers_session i
  have limit : (s.setDrainTimers.session i).outstandingLimit = (s.session i).outstandingLimit := by rw [record]; rfl
  have target : (s.setDrainTimers.session i).target = (s.session i).target := by rw [record]; rfl
  have level : (s.setDrainTimers.session i).level s.time = (s.session i).level s.time := by rw [record]; rfl
  rw [Bool.eq_iff_iff, State.eligible_reads, State.eligible_reads, State.slotsOf_congr slots, count, setup, gate, time, limit,
    target, level]

/-! What a grant leaves at the gate and in the records (R116). -/

theorem State.grant_gate (free : s.freeSlot = some k)
    (htag : takeTag 8 ((s.slotsOf a.session).map fun p => p.2.tag) (s.session a.session).nextTag = tag) :
    (s.grant a).gate = (s.granted a k tag).gate := by
  have told : RecordsOnly (s.granted a k tag) ((s.granted a k tag).tellGrant a.session) := State.tellGrant_records _ _
  have gate : ((s.granted a k tag).tellGrant a.session).gate = (s.granted a k tag).gate := by rw [told]
  rw [State.grant_of_free free htag]
  exact (congrArg State.gate (State.originate_apart _ _) :).trans gate

theorem State.grant_session (free : s.freeSlot = some k)
    (htag : takeTag 8 ((s.slotsOf a.session).map fun p => p.2.tag) (s.session a.session).nextTag = tag) (j : SessionIx) :
    (s.grant a).session j = ((s.granted a k tag).tellGrant a.session).session j := by
  rw [State.grant_of_free free htag, State.session_of_apart (State.originate_apart _ _)]

theorem State.granted_session (s : State) (a : Ask) (k : SlotIx) (tag : Byte) (j : SessionIx) : (s.granted a k tag).session j =
    if j = a.session then { (s.granting a.session).session j with
      nextTag := tag + 1
      expiredTags := ((s.granting a.session).session j).expiredTags.filter fun t => decide (t ≠ tag) }
    else (s.granting a.session).session j :=
  State.fillSlot_session k tag j

/-- A field that neither a judgement nor a tag moves is the one before the grant. -/
theorem State.granted_keeps {α : Type} (F : Session → α)
    (apart : ∀ x, F x = F { x.apartFromRung with nextTag := 0, expiredTags := [] }) (j : SessionIx) :
    F ((s.granted a k tag).session j) = F (s.session j) := by
  have judged := State.granting_keeps (s := s) (i := a.session)
    (fun x => F { x.apartFromRung with nextTag := 0, expiredTags := [] }) (fun _ => rfl) j
  rw [apart, apart (s.session j), State.granted_session]
  split <;> exact judged

theorem State.granted_contender (s : State) (a : Ask) (k : SlotIx) (tag : Byte) :
    (s.granted a k tag).contender a.session = some j ↔ s.IsContenderOf a.session j := by
  rw [State.contender_eq_some_iff, State.IsContenderOf, State.IsContenderOf, State.granted_keeps Session.role fun _ => rfl,
    State.granted_keeps Session.admin fun _ => rfl]

/-- Nobody is eligible behind the grants of an examination (R111, R112). -/
theorem State.grantLoop_ineligible (n : Nat) : ∀ s : State, s.gate.askQueue.length = n → s.setup.maxOutstanding ≤ 8 →
    ∀ a ∈ (State.grantLoop s.gate.askQueue.length s).gate.askQueue,
      (State.grantLoop s.gate.askQueue.length s).eligible a.session = false := by
  induction n using Nat.strong_induction_on with
  | _ n ih =>
    intro s hn bounded
    cases chosen : s.chooseAsk with
    | none =>
      rw [State.grantLoop_of_none chosen]
      exact State.chooseAsk_eq_none_iff.mp chosen
    | some a =>
      rw [State.grantLoop_of_some chosen]
      split
      · refine ih _ ?_ (s.grant a) rfl (by rw [State.grant_setup]; exact bounded)
        rw [← hn]
        exact State.grant_askQueue_length chosen
      · next spacing =>
        intro c _
        have eligible := (State.chooseAsk_eq_some_iff.mp chosen).mem.2
        simp only [State.eligible, State.hasRoom, Bool.and_eq_true, decide_eq_true_eq] at eligible
        obtain ⟨k, free⟩ := Option.ne_none_iff_exists'.mp (s.freeSlot_ne_none (by omega))
        have hold : (s.grant a).gate.spacingHold.isNone = false := by
          have kept : (s.granting a.session).setup = s.setup := by
            have judged : RecordsOnly (s.removeAsk a.session) (s.granting a.session) := State.judge_records _ _
            rw [judged]
            rfl
          rw [State.grant_gate free rfl]
          simp only [State.granted, State.fillSlot, kept, if_neg spacing]
          rfl
        simp [State.eligible, State.hasRoom, hold]

end

/-- Settles O41: eligibility, the arbiter's first, the repetition of grants, the drain timers, and one grant. -/
theorem queueIsExamined : Obligations.QueueIsExamined := by
  refine ⟨fun s i p e profile eff => State.eligible_iff profile eff, fun s a => ?_, fun s => ⟨State.chooseAsk_eq_none_iff,
    fun idle => ?_, fun a chosen spacing => ?_, fun a chosen spacing => ?_, fun range a ha => ?_⟩, ?_, ?_⟩
  · simp only [State.chooseAsk_eq_some_iff, State.IsFirst, State.askRank_lt_iff]
  · rw [State.examine, State.grantLoop_of_none idle]
  · rw [State.examine, State.grantLoop_of_some chosen, if_neg spacing]
  · rw [State.examine, State.grantLoop_of_some chosen, if_pos spacing, State.examine]
  · have records : RecordsOnly (State.grantLoop s.gate.askQueue.length s) s.examine := State.setDrainTimers_records _
    have gate : s.examine.gate = (State.grantLoop s.gate.askQueue.length s).gate := by rw [records]
    rw [gate] at ha
    rw [State.examine, State.setDrainTimers_eligible]
    exact State.grantLoop_ineligible _ s rfl range.maxOutstanding.2 a ha
  · rintro s t i rfl
    have record := s.setDrainTimers_session i
    refine ⟨s.setDrainTimers_records, by rw [record], fun none' => ?_, fun p e excess profile eff asks hexcess => ⟨?_, ?_⟩⟩
    · rw [record]
      exact State.drainTimerOf_of_no_ask none'
    · intro admits full playing level
      rw [record]
      refine (State.drainTimerOf_of_ask eff asks).trans ?_
      rw [← hexcess, if_pos ⟨(State.hasRoom_iff profile).mpr admits, full, playing, level⟩]
    · intro kept
      rw [record]
      refine (State.drainTimerOf_of_ask eff asks).trans (if_neg ?_)
      rw [← hexcess, State.hasRoom_iff profile]
      rintro ⟨admits, full, playing, level⟩
      rcases kept with h | h | h | h
      · exact h admits
      · exact absurd full (Nat.not_le.mpr h)
      · exact h playing
      · exact absurd level (Nat.not_le.mpr h)
  intro s w t a i k tag skipped r dry l e queue ht hi hqueue hw published eff rung free first hdry fuel htag fresh taken
  subst ht hi hqueue
  obtain rfl : w = s.granting a.session := hw
  have hfree := State.freeSlot_eq_some free first
  have tagged := State.takeTag_eq fuel htag fresh taken
  have judged : RecordsOnly (s.removeAsk a.session) (s.granting a.session) := State.judge_records _ _
  have time : (s.granting a.session).time = s.time := by rw [judged]; rfl
  have gate : (s.granting a.session).gate = (s.removeAsk a.session).gate := by rw [judged]
  have setup : (s.granting a.session).setup = s.setup := by rw [judged]; rfl
  have published' : ((s.granting a.session).session a.session).published = some l :=
    (State.granting_keeps Session.published (fun _ => rfl) _).trans published
  have eff' : ((s.granting a.session).session a.session).eff = some e :=
    (State.granting_keeps Session.eff (fun _ => rfl) _).trans eff
  have generation : ((s.granting a.session).session a.session).generation = (s.session a.session).generation :=
    State.granting_keeps Session.generation (fun _ => rfl) _
  have level : ((s.granting a.session).session a.session).level (s.granting a.session).time = (s.session a.session).level s.time := by
    rw [time]
    exact State.granting_keeps (fun x => x.level s.time) (fun _ => rfl) _
  have hdry' : dry = ((s.granting a.session).session a.session).level (s.granting a.session).time * 8 / e.speed := by
    rw [level, hdry]
  refine ⟨?_, fun j y hy => ?_, fun c claim room => ?_⟩
  · rw [State.grant_gate hfree tagged, State.granted, State.fillSlot_gate rfl published' eff' rung hdry', generation, time, setup]
    simp only [State.setSlot, gate]
    rfl
  · have record : (s.granted a k tag).session j = y := by
      rw [hy, State.granted_session]
      split
      · next same => rw [same]
      · rfl
    have time' : (s.granted a k tag).time = s.time := time
    rw [State.grant_session hfree tagged, State.tellGrant_session, record, time']
    refine ⟨?_, fun still => ?_⟩
    · rintro ⟨contender, ⟨p, profile, start⟩, watching, mark⟩
      rw [if_pos ⟨(s.granted_contender a k tag).mpr contender, (Session.drawKind_of_profile profile).trans start, watching, mark⟩]
      rfl
    · refine if_neg ?_
      rintro ⟨contender, start, watching, mark⟩
      rcases still with h | h | h | h
      · exact h ((s.granted_contender a k tag).mp contender)
      · cases profile : y.profile with
        | none => simp [Session.drawKind, profile] at start
        | some p => exact h p profile ((Session.drawKind_of_profile profile).symm.trans start)
      · exact h watching
      · rw [h] at mark
        cases mark
  · have told : RecordsOnly (s.granted a k tag) ((s.granted a k tag).tellGrant a.session) := State.tellGrant_records _ _
    have control : ((s.granted a k tag).tellGrant a.session).control = s.control := by
      rw [told]
      exact (congrArg State.control judged :)
    have path : ((s.granted a k tag).tellGrant a.session).path = s.path := by
      rw [told]
      exact (congrArg State.path judged :)
    obtain ⟨-, -, f, last, own, note⟩ := State.originate_sent (by rw [control, claim]; exact nofun) (by rw [path]; exact room)
      (.grant ((s.granting a.session).grantNote a k tag))
    rw [State.grantNote_eq rfl published' eff' rung hdry', generation] at note
    rw [State.grant_of_free hfree tagged]
    exact ⟨f, List.mem_of_getLast? last, own, List.mem_of_getLast? note⟩

end Sys2Proof.Machine

/-! SUPPORT. A note of the part's own accord stays queued while a control note is answered (R160); O40. -/

namespace Sys2Proof.Machine

/-- A note stands in a report frame of the part's own notes. -/
def QueuedNote (q : List ReportFrame) (n : OutNote) : Prop := ∃ f ∈ q, f.isReply = false ∧ n ∈ f.notes

section
variable {q : List ReportFrame} {n : OutNote}

theorem QueuedNote.append (h : QueuedNote q n) (l : List ReportFrame) : QueuedNote (q ++ l) n := by
  obtain ⟨f, hf, queued⟩ := h
  exact ⟨f, List.mem_append_left _ hf, queued⟩

theorem QueuedNote.appendReply (h : QueuedNote q n) (m : OutNote) : QueuedNote (appendReply m q) n := by
  obtain ⟨f, hf, own, queued⟩ := h
  induction q with
  | nil => exact absurd hf List.not_mem_nil
  | cons g q ih =>
    unfold Machine.appendReply
    rcases List.mem_cons.mp hf with rfl | hf
    · split
      · exact ⟨{ f with notes := f.notes ++ [m] }, List.mem_cons_self, own, List.mem_append_left _ queued⟩
      · exact ⟨f, List.mem_cons_self, own, queued⟩
    · split
      · exact ⟨f, List.mem_cons_of_mem _ hf, own, queued⟩
      · obtain ⟨g', hg', kept⟩ := ih hf
        exact ⟨g', List.mem_cons_of_mem _ hg', kept⟩

theorem QueuedNote.takeReplies (h : QueuedNote q n) (p : ReplyProgress) (rs : List Reply) : QueuedNote (takeReplies p q rs) n := by
  cases p with
  | begun =>
    have fold : ∀ (rs : List Reply) (q : List ReportFrame), QueuedNote q n →
        QueuedNote (rs.foldl (fun q r => Machine.appendReply (.reply r) q) q) n := by
      intro rs
      induction rs with
      | nil => exact fun _ h => h
      | cons r rs ih => exact fun q h => ih _ (h.appendReply _)
    exact fold rs q h
  | notBegun => exact h
  | dropped => exact h

theorem QueuedNote.queueWith {s : State} (h : QueuedNote s.path.reportQueue n) (b : Batch) (r : Reply) :
    QueuedNote (s.queueWith b r) n := by
  unfold State.queueWith
  split
  · exact h.appendReply _
  · exact h
  · split
    · exact h.append _
    · exact h

/-- Answering a note leaves the part's own notes queued. -/
theorem State.answer_queuedNote {s : State} {b : Batch} (executing : s.control.batch = some b) (ty : Byte) (a : Answer)
    (h : QueuedNote s.path.reportQueue n) : QueuedNote (s.answer ty a).path.reportQueue n := by
  obtain ⟨bad, -, -, queue⟩ := State.answer_spec executing ty a
  obtain ⟨f, hf, own, queued⟩ := (h.queueWith b _).takeReplies (b.reply.tried s.path.reportQueue.length) bad
  rw [queue]
  exact ⟨_, List.mem_map_of_mem hf, own, queued⟩

end

section
variable {s : State} {b : Batch} {c : Instr} {ty : Byte} {e : State} {a : Answer}

/-- A plain note that works at the gate leaves the state its body leaves apart from reports, and the notes the body queued. -/
theorem State.Hears.doesQueued {body : State → State × Answer} (hears : s.Hears b) (plain : plainNote c = some (ty, body))
    (result : body s = (e, a)) (work : GateWork s e) : ∃ t, exec c s = .next t ∧ t.apartFromReports = e.apartFromReports ∧
      ∀ n, QueuedNote e.path.reportQueue n → QueuedNote t.path.reportQueue n := by
  refine ⟨settle s (e.answer ty a), ?_, (settle_apart s _).trans (e.answer_apart ty a), fun n queued => ?_⟩
  · rw [exec_plainNote plain hears.taking, State.takeNote, hears.check, result]
  · exact (settle_queues _ (QueuesKept.refl _) s).reports.keeps_note
      (State.answer_queuedNote (work.batch.trans hears.executing) ty a queued)

end

theorem RecordsOnly.gate_path {s t : State} (h : RecordsOnly s t) : t.gate = s.gate ∧ t.path = s.path := by
  rw [h]
  exact ⟨rfl, rfl⟩

theorem State.slot_of_gate {t : State} {g : Gate} (h : t.gate = g) (m : SlotIx) : t.slot m = g.slots[m] := by
  rw [State.slot, h]

theorem State.gate_of_apart {t u : State} (h : t.apartFromReports = u.apartFromReports) : t.gate = u.gate :=
  (congrArg State.gate h :)

/-! The judgement of an independent session (R89, R99). -/

theorem State.judge_rung_of_independent {s : State} {i : SessionIx} (alone : (s.session i).role = .independent) :
    ((s.judge i).session i).rung = some (s.verdict i) := by
  have followers : (s.session i).followers = [] := by rw [Session.followers, alone]
  rw [State.judge_of_free (by rw [alone]; exact nofun), State.applyVerdict]
  split
  · next same => exact same
  · next moves =>
    have moved := State.moveRung_derived moves (by rw [followers]; exact List.nodup_nil) (by rw [followers]; exact nofun)
    rw [followers] at moved
    rw [moved.eq_of_nil, State.modSession_modSession, State.modSession_session_self]
    unfold Session.restartUpHold
    split <;> rfl

/-- A queue of one eligible ask is granted, and examined no further (R112). -/
theorem State.examine_of_one {s : State} {a : Ask} (queue : s.gate.askQueue = [a]) (eligible : s.eligible a.session = true) :
    s.examine = (s.grant a).setDrainTimers := by
  have chosen : s.chooseAsk = some a :=
    State.chooseAsk_eq_some_iff.mpr ⟨[], [], queue, eligible, nofun, nofun⟩
  have empty : (s.grant a).gate.askQueue = [] := by rw [State.grant_askQueue, queue]; simp
  have idle : (s.grant a).chooseAsk = none := State.chooseAsk_eq_none_iff.mpr (by simp [empty])
  rw [State.examine, State.grantLoop_of_some chosen, State.grantLoop_of_none idle, ite_self]

/-- Settles O40: the queue of the one ask, its grant, and the note that stays queued while the ASK is answered. -/
theorem eligibleAskIsGranted : Obligations.EligibleAskIsGranted := by
  intro s b n i e p lad k v dur dry skipped tag c hears claim room named unflushed queue streaming alone eff profile published
    spacing outstanding limit below free first hv hdur hdry fuel htag fresh taken
  obtain ⟨a, ha⟩ : ∃ a : Ask, a = { session := i, segment := n.segment, duration := dur, flush := n.flush, arrival := s.time } :=
    ⟨_, rfl⟩
  obtain ⟨q, hq⟩ : ∃ q : State, q = { s with gate.askQueue := [a] } := ⟨_, rfl⟩
  have own : a.session = i := by rw [ha]
  have idle : ¬ (s.askOf i).isSome = true := by simp [State.askOf, queue]
  have result : s.askBody (some n) = (q.examine, Answer.done (decide (n.clampedDuration ≠ n.duration))) := by
    have body : s.askBody (some n) = if (s.askOf i).isSome then refuseWith s .askPending
        else (s.queueAsk i n, Answer.done (decide (n.clampedDuration ≠ n.duration))) :=
      State.sessionNote_admitted named (admission_streamingOnly.mpr streaming) _
    have queued : s.queueAsk i n = q.examine := by
      rw [State.queueAsk, unflushed, if_neg Bool.false_ne_true, queue, List.nil_append, hq, ha, hdur, unflushed]
      rfl
    rw [body, if_neg idle, queued]
  have work : GateWork s q.examine := (hq ▸ rfl : GateWork s q).trans q.examine_gateWork
  obtain ⟨t, taken', apart, notes⟩ := hears.doesQueued (c := .askFetch (some n)) rfl result work
  have eligible : q.eligible a.session = true := by
    rw [own, State.eligible_reads, hq]
    refine ⟨⟨outstanding, ?_, spacing⟩, ?_⟩
    · exact lt_of_lt_of_eq limit (Session.outstandingLimit_of_profile profile).symm
    · exact lt_of_lt_of_eq below (Session.target_of_eff eff).symm
  have examined := State.examine_of_one (by rw [hq]) eligible
  have records : RecordsOnly (q.grant a) q.examine := examined ▸ State.setDrainTimers_records _
  have before : ({ q with gate.askQueue := q.gate.askQueue.filter fun c => decide (c.session ≠ i) } : State) = s := by
    have emptied : q.gate.askQueue.filter (fun c => decide (c.session ≠ i)) = s.gate.askQueue := by rw [hq, queue]; simp [own]
    rw [emptied, hq]
  have rung : ((s.judge i).session i).rung = some v := hv ▸ State.judge_rung_of_independent alone
  have slots : ∀ m, q.slot m = s.slot m := fun m => by rw [hq]; rfl
  have same : ∀ j, q.session j = s.session j := fun j => by rw [hq]; rfl
  obtain ⟨-, -, -, -, granted⟩ := queueIsExamined
  obtain ⟨gate, session, note⟩ := granted q (s.judge i) (q.grant a) a i k tag skipped v dry lad e _ rfl own.symm rfl
    (by rw [before]) (by rw [same]; exact published) (by rw [same]; exact eff) rung ((slots k).trans free)
    (fun m hm => by rw [slots]; exact first m hm) (by rw [same, hdry, hq]) fuel (by rw [same]; exact htag)
    (fun m x held => fresh m x ((slots m).symm.trans held))
    (fun j hj => by
      obtain ⟨m, x, held, which⟩ := taken j hj
      exact ⟨m, x, (slots m).trans held, by rw [same]; exact which⟩)
  have gate' : t.gate = (q.grant a).gate := (State.gate_of_apart apart).trans records.gate_path.1
  rw [gate] at gate'
  have record : t.session i = { (q.grant a).session i with drainTimer := (q.grant a).drainTimerOf i } := by
    rw [State.session_of_apart apart, examined, State.setDrainTimers_session]
  have kept : ((s.judge i).session i).expiredTags = (s.session i).expiredTags :=
    (State.judge_onlyRungs s i).keeps Session.expiredTags (fun _ => rfl) i
  obtain ⟨drawn, hdrawn⟩ : ∃ drawn : DrawState, (q.grant a).session i = { (s.judge i).session i with
      nextTag := tag + 1, expiredTags := (s.session i).expiredTags.filter fun u => decide (u ≠ tag), draw := drawn } := by
    obtain ⟨opened, still⟩ := session i _ rfl
    rw [if_pos rfl, kept] at opened still
    by_cases staircase : (q.IsContenderOf i i ∧ (∃ p', ((s.judge i).session i).profile = some p' ∧ p'.drawKind = .start) ∧
        ((s.judge i).session i).draw.phase = .watching ∧ ((s.judge i).session i).draw.openMark = true)
    · exact ⟨_, opened staircase⟩
    · refine ⟨((s.judge i).session i).draw, still ?_⟩
      by_contra other
      push Not at other
      obtain ⟨contender, ⟨p', held, start⟩, watching, mark⟩ := other
      exact staircase ⟨contender, ⟨p', held, start⟩, watching, by simpa using mark⟩
  refine ⟨t, taken', ?_, ?_, fun m hm => ?_, ?_, ?_, ?_, ?_, ?_⟩
  · rw [gate', hq]
    simp [own]
  · refine (State.slot_of_gate gate' k).trans ((State.setSlot_slot_self q k _).trans ?_)
    rw [same, hq, ha]
  · refine (State.slot_of_gate gate' m).trans ((State.setSlot_slot_ne q k m _ hm).trans (slots m))
  · rw [record, hdrawn]
    exact rung
  · rw [record, hdrawn]
  · rw [record, hdrawn]
  · rw [gate', hq, spacing]
  · have queued := note c (by rw [hq]; exact claim) (by rw [hq]; exact Nat.lt_succ_of_lt room)
    rw [← records.gate_path.2] at queued
    have sent := notes _ queued
    rw [same, ha] at sent
    exact sent

end Sys2Proof.Machine

/-! SUPPORT. The division of the allocatable total: the starved division and the rounds of the weighted water-filling (R77 to R79). -/

namespace Sys2Proof.Machine

/-! Sums of shares. -/

theorem sum_map_div_le {α : Type} (l : List α) (g : α → Nat) (n : Nat) : (l.map fun a => g a / n).sum ≤ (l.map g).sum / n := by
  induction l with
  | nil => simp
  | cons a l ih =>
    simp only [List.map_cons, List.sum_cons]
    exact (Nat.add_le_add_left ih _).trans Nat.div_add_div_le_add_div

theorem sum_map_add' {α : Type} (l : List α) (f g : α → Nat) : (l.map fun a => f a + g a).sum = (l.map f).sum + (l.map g).sum := by
  induction l with
  | nil => rfl
  | cons a l ih =>
    simp only [List.map_cons, List.sum_cons, ih]
    omega

theorem sum_map_partition {α : Type} (l : List α) (p : α → Bool) (f : α → Nat) :
    ((l.filter p).map f).sum + ((l.filter fun a => !p a).map f).sum = (l.map f).sum := by
  have whole := ((List.filter_append_perm p l).map f).sum_eq
  rw [List.map_append, List.sum_append] at whole
  exact whole

/-- Parts of an amount in proportion to weights that are some of the whole make up no more than the amount. -/
theorem sum_parts_le {α : Type} (l : List α) (weight : α → Nat) (r whole : Nat) (within : (l.map weight).sum ≤ whole) :
    (l.map fun a => r * weight a / whole).sum ≤ r := by
  have scaled : (l.map fun a => r * weight a).sum = r * (l.map weight).sum := List.sum_map_mul_left ..
  have bound : r * (l.map weight).sum / whole ≤ r :=
    Nat.div_le_of_le_mul ((Nat.mul_le_mul_left r within).trans (Nat.mul_comm r whole).le)
  exact (sum_map_div_le l _ whole).trans (scaled ▸ bound)

/-! The shares of a division, read by session. -/

/-- The share a division gives a session. -/
def shareIn (w : List (SessionIx × Nat)) (i : SessionIx) : Nat := ((w.find? fun p => decide (p.1 = i)).map Prod.snd).getD 0

section
variable {w : List (SessionIx × Nat)} {i : SessionIx}

theorem shareIn_cons (p : SessionIx × Nat) (w : List (SessionIx × Nat)) (i : SessionIx) :
    shareIn (p :: w) i = if i = p.1 then p.2 else shareIn w i := by
  by_cases same : p.1 = i
  · simp [shareIn, same]
  · simp [shareIn, same, Ne.symm same]

theorem shareIn_of_notMem (h : i ∉ w.map Prod.fst) : shareIn w i = 0 := by
  have missing : w.find? (fun p => decide (p.1 = i)) = none :=
    List.find?_eq_none.mpr fun p hp same => h (List.mem_map.mpr ⟨p, hp, by simpa using same⟩)
  simp [shareIn, missing]

theorem shareIn_of_mem (distinct : (w.map Prod.fst).Nodup) {p : SessionIx × Nat} (h : p ∈ w) : shareIn w p.1 = p.2 := by
  induction w with
  | nil => exact absurd h List.not_mem_nil
  | cons q w ih =>
    obtain ⟨fresh, distinct⟩ := List.nodup_cons.mp distinct
    rw [shareIn_cons]
    rcases List.mem_cons.mp h with rfl | h
    · exact if_pos rfl
    · rw [if_neg fun same : p.1 = q.1 => fresh (same ▸ List.mem_map_of_mem h), ih distinct h]

theorem sum_map_update {l : List SessionIx} (distinct : l.Nodup) (listed : i ∈ l) (v : Nat) (g : SessionIx → Nat) (free : g i = 0) :
    (l.map fun j => if j = i then v else g j).sum = v + (l.map g).sum := by
  induction l with
  | nil => exact absurd listed List.not_mem_nil
  | cons a l ih =>
    obtain ⟨fresh, distinct⟩ := List.nodup_cons.mp distinct
    simp only [List.map_cons, List.sum_cons]
    by_cases same : a = i
    · subst same
      have rest : (l.map fun j => if j = a then v else g j) = l.map g :=
        List.map_congr_left fun j hj => if_neg fun e : j = a => fresh (e ▸ hj)
      rw [if_pos rfl, rest, free, Nat.zero_add]
    · rw [if_neg same, ih distinct ((List.mem_cons.mp listed).resolve_left (Ne.symm same))]
      omega

/-- The shares read by session sum to those of the division. -/
theorem sum_shareIn {l : List SessionIx} (all : l.Nodup) (distinct : (w.map Prod.fst).Nodup) (listed : ∀ j ∈ w.map Prod.fst, j ∈ l) :
    (l.map (shareIn w)).sum = (w.map Prod.snd).sum := by
  induction w with
  | nil =>
    have none' : l.map (shareIn []) = l.map fun _ => 0 := List.map_congr_left fun _ _ => rfl
    simp [none']
  | cons p w ih =>
    obtain ⟨fresh, distinct⟩ := List.nodup_cons.mp distinct
    have first : shareIn (p :: w) = fun j => if j = p.1 then p.2 else shareIn w j := funext (shareIn_cons p w)
    rw [first, sum_map_update all (listed p.1 List.mem_cons_self) _ _ (shareIn_of_notMem fresh),
      ih distinct fun j hj => listed j (List.mem_cons_of_mem _ hj), List.map_cons, List.sum_cons]

end

/-! The weighted water-filling (R79). -/

section
variable (floor cap weight : SessionIx → Nat)

/-- A contender's claim by its needs and weight. -/
def claimOf (i : SessionIx) : ShareClaim := { session := i, weight := weight i, floorNeed := floor i, capNeed := cap i }

/-- What a division gives to an open set of contenders. -/
structure Fills (w : List (SessionIx × Nat)) (r : Nat) (open' : List SessionIx) : Prop where
  sessions : (w.map Prod.fst).Perm open'
  total : (w.map Prod.snd).sum ≤ (open'.map floor).sum + r
  bounds : ∀ p ∈ w, floor p.1 ≤ p.2 ∧ p.2 ≤ cap p.1
  filled : ∀ share : SessionIx → Nat, (∀ p ∈ w, share p.1 = p.2) → WaterFilled floor cap weight share r open'

variable {floor cap weight}

theorem Fills.last {r : Nat} {open' : List SessionIx}
    (below : ∀ i ∈ open', floor i + r * weight i / (open'.map weight).sum < cap i) :
    Fills floor cap weight (open'.map fun i => (i, floor i + r * weight i / (open'.map weight).sum)) r open' := by
  refine ⟨?_, ?_, fun p hp => ?_, fun share takes => .last r open' below fun i hi => takes _ (List.mem_map_of_mem hi)⟩
  · rw [List.map_map]
    exact .of_eq (List.map_id _)
  · rw [List.map_map]
    exact (sum_map_add' open' floor _).le.trans (Nat.add_le_add_left (sum_parts_le open' weight r _ le_rfl) _)
  · obtain ⟨i, hi, rfl⟩ := List.mem_map.mp hp
    exact ⟨Nat.le_add_right _ _, (below i hi).le⟩

theorem Fills.round {r : Nat} {open' capped others : List SessionIx} {w : List (SessionIx × Nat)}
    (ordered : ∀ i ∈ open', floor i ≤ cap i)
    (reach : capped = open'.filter fun i => decide (cap i ≤ floor i + r * weight i / (open'.map weight).sum))
    (rest : others = open'.filter fun i => !decide (cap i ≤ floor i + r * weight i / (open'.map weight).sum))
    (some' : capped ≠ []) (next : Fills floor cap weight w (r - (capped.map fun i => cap i - floor i).sum) others) :
    Fills floor cap weight (capped.map (fun i => (i, cap i)) ++ w) r open' := by
  have own : ∀ i ∈ capped, i ∈ open' ∧ cap i ≤ floor i + r * weight i / (open'.map weight).sum := fun i hi => by
    simpa [reach] using hi
  have split (f : SessionIx → Nat) : (capped.map f).sum + (others.map f).sum = (open'.map f).sum := by
    rw [reach, rest]
    exact sum_map_partition open' _ f
  refine ⟨?_, ?_, fun p hp => ?_, fun share takes => ?_⟩
  · have parts : (capped ++ others).Perm open' := by
      rw [reach, rest]
      exact List.filter_append_perm _ _
    have names : (capped.map fun i => (i, cap i)).map Prod.fst = capped := by
      rw [List.map_map]
      exact List.map_id _
    rw [List.map_append, names]
    exact (next.sessions.append_left capped).trans parts
  · have taken : (capped.map fun i => cap i - floor i).sum ≤ r := by
      refine (List.sum_le_sum fun i hi => ?_).trans (sum_parts_le capped weight r (open'.map weight).sum ?_)
      · exact Nat.sub_le_iff_le_add'.mpr (own i hi).2
      · exact (Nat.le_add_right _ _).trans (split weight).le
    have caps : (capped.map cap).sum = (capped.map floor).sum + (capped.map fun i => cap i - floor i).sum := by
      rw [← sum_map_add']
      refine congrArg List.sum (List.map_congr_left fun i hi => ?_)
      have := ordered i (own i hi).1
      omega
    have values : (capped.map fun i => (i, cap i)).map Prod.snd = capped.map cap := List.map_map ..
    have total := next.total
    have floors := split floor
    rw [List.map_append, List.sum_append, values, caps]
    omega
  · rcases List.mem_append.mp hp with hp | hp
    · obtain ⟨i, hi, rfl⟩ := List.mem_map.mp hp
      exact ⟨ordered i (own i hi).1, le_rfl⟩
    · exact next.bounds p hp
  · refine .round r open' capped others reach ?_ some' (fun i hi => ?_) (next.filled share fun p hp => ?_)
    · rw [rest]
      exact List.filter_congr fun i _ => by rw [← decide_not, decide_eq_decide, Nat.not_le]
    · exact takes (i, cap i) (List.mem_append_left _ (List.mem_map_of_mem hi))
    · exact takes p (List.mem_append_right _ hp)

/-- The rounds of the water-filling fill the open set. -/
theorem waterFill_fills (n : Nat) : ∀ (r : Nat) (open' : List SessionIx), open'.length < n → (∀ i ∈ open', floor i ≤ cap i) →
    Fills floor cap weight (waterFill n r (open'.map (claimOf floor cap weight))) r open' := by
  induction n with
  | zero => exact fun _ _ h => absurd h (Nat.not_lt_zero _)
  | succ n ih =>
    intro r open' fuel ordered
    obtain ⟨capped, reach⟩ : ∃ l, l = open'.filter fun i => decide (cap i ≤ floor i + r * weight i / (open'.map weight).sum) :=
      ⟨_, rfl⟩
    obtain ⟨others, rest⟩ : ∃ l, l = open'.filter fun i => !decide (cap i ≤ floor i + r * weight i / (open'.map weight).sum) :=
      ⟨_, rfl⟩
    have weights : ((open'.map (claimOf floor cap weight)).map ShareClaim.weight).sum = (open'.map weight).sum := by
      rw [List.map_map]
      rfl
    have reached : (open'.map (claimOf floor cap weight)).filter
        (fun c => decide (c.capNeed ≤ c.tentative r (open'.map weight).sum)) = capped.map (claimOf floor cap weight) := by
      rw [reach, List.filter_map]
      rfl
    have rested : (open'.map (claimOf floor cap weight)).filter
        (fun c => !decide (c.capNeed ≤ c.tentative r (open'.map weight).sum)) = others.map (claimOf floor cap weight) := by
      rw [rest, List.filter_map]
      rfl
    have taken : ((capped.map (claimOf floor cap weight)).map fun c => c.capNeed - c.floorNeed).sum =
        (capped.map fun i => cap i - floor i).sum := by
      rw [List.map_map]
      rfl
    simp only [waterFill, weights, reached, rested, taken]
    by_cases none' : capped = []
    · have below : ∀ i ∈ open', floor i + r * weight i / (open'.map weight).sum < cap i := fun i hi => by
        have unreached : i ∉ capped := none' ▸ List.not_mem_nil
        simpa [reach, hi] using unreached
      have tentative : (open'.map (claimOf floor cap weight)).map (fun c => (c.session, c.tentative r (open'.map weight).sum)) =
          open'.map fun i => (i, floor i + r * weight i / (open'.map weight).sum) := by
        rw [List.map_map]
        rfl
      rw [if_pos (by simp [none']), tentative]
      exact Fills.last below
    · have caps : (capped.map (claimOf floor cap weight)).map (fun c => (c.session, c.capNeed)) = capped.map fun i => (i, cap i) := by
        rw [List.map_map]
        rfl
      have shorter : others.length < open'.length := by
        have parts : capped.length + others.length = open'.length := by
          rw [reach, rest, ← List.length_append]
          exact (List.filter_append_perm _ _).length_eq
        have := List.length_pos_iff.mpr none'
        omega
      rw [if_neg (by simpa using none'), caps]
      refine Fills.round ordered reach rest none' (ih _ others (by omega) fun i hi => ordered i ?_)
      rw [rest] at hi
      exact List.mem_of_mem_filter hi

end

end Sys2Proof.Machine

/-! SUPPORT. A recomputation of the shares (R73 to R83); O52. -/

namespace Sys2Proof.Machine

section
variable {s : State} {i : SessionIx} {contenders : List SessionIx} {total floors : Nat}

theorem State.recompute_alloc (s : State) : s.recompute.alloc =
    { total := s.allocatable, spare := s.allocatable - ((divide s.allocatable s.shareClaims).map Prod.snd).sum
      starved := decide (s.allocatable ≤ floorSum s.shareClaims) } := by
  rw [State.recompute]

/-- The claims of a recomputation are those of the contenders. -/
theorem State.shareClaims_eq (hcontenders : contenders = allSessions.filter fun i => (s.session i).isContender) :
    s.shareClaims = contenders.map (claimOf s.floorNeed s.capNeed fun i => (s.session i).profile.elim 0 Profile.weight) := by
  rw [hcontenders]
  rfl

theorem floorSum_claims (floor cap weight : SessionIx → Nat) (l : List SessionIx) :
    floorSum (l.map (claimOf floor cap weight)) = (l.map floor).sum := by
  rw [floorSum, List.map_map]
  rfl

/-- What a division gives, whether or not the total covers the floor needs (R78, R79). -/
theorem divide_sessions {floor cap weight : SessionIx → Nat} (l : List SessionIx) (ordered : ∀ i ∈ l, floor i ≤ cap i)
    (total : Nat) : ((divide total (l.map (claimOf floor cap weight))).map Prod.fst).Perm l ∧
      ((divide total (l.map (claimOf floor cap weight))).map Prod.snd).sum ≤ total ∧
      (total ≤ (l.map floor).sum → ∀ p ∈ divide total (l.map (claimOf floor cap weight)),
        p.2 = floor p.1 * total / (l.map floor).sum) ∧
      ((l.map floor).sum < total → Fills floor cap weight (divide total (l.map (claimOf floor cap weight)))
        (total - (l.map floor).sum) l) := by
  unfold divide
  rw [floorSum_claims]
  by_cases starved : total ≤ (l.map floor).sum
  · have parts : (l.map (claimOf floor cap weight)).map (fun c => (c.session, c.floorNeed * total / (l.map floor).sum)) =
        l.map fun i => (i, floor i * total / (l.map floor).sum) := by
      rw [List.map_map]
      rfl
    rw [if_pos starved, parts]
    refine ⟨?_, ?_, fun _ p hp => ?_, fun h => absurd starved (Nat.not_le.mpr h)⟩
    · rw [List.map_map]
      exact .of_eq (List.map_id _)
    · rw [List.map_map]
      have sum := sum_parts_le l floor total (l.map floor).sum le_rfl
      simpa only [Function.comp_def, Nat.mul_comm total] using sum
    · obtain ⟨i, hi, rfl⟩ := List.mem_map.mp hp
      rfl
  · rw [if_neg starved, List.length_map]
    have fills := waterFill_fills (l.length + 1) (total - (l.map floor).sum) l (Nat.lt_succ_self _) ordered (weight := weight)
    refine ⟨fills.sessions, ?_, fun h => absurd h starved, fun _ => fills⟩
    have := fills.total
    omega

theorem sharesOf_eq {floor cap weight : SessionIx → Nat} (l : List SessionIx) (w : List (SessionIx × Nat)) (i : SessionIx) :
    sharesOf (l.map (claimOf floor cap weight)) w i =
      if i ∈ l then some { share := shareIn w i, floorNeed := floor i, capNeed := cap i } else none := by
  by_cases listed : i ∈ l
  · have found : (l.map (claimOf floor cap weight)).find? (fun c => decide (c.session = i)) = some (claimOf floor cap weight i) := by
      cases h : (l.map (claimOf floor cap weight)).find? fun c => decide (c.session = i) with
      | none => exact absurd (decide_eq_true rfl) (List.find?_eq_none.mp h _ (List.mem_map_of_mem listed))
      | some c =>
        obtain ⟨j, -, rfl⟩ := List.mem_map.mp (List.mem_of_find?_eq_some h)
        have found := List.find?_some h
        have same : j = i := of_decide_eq_true found
        rw [same]
    rw [sharesOf, found, if_pos listed]
    rfl
  · have missing : (l.map (claimOf floor cap weight)).find? (fun c => decide (c.session = i)) = none := by
      refine List.find?_eq_none.mpr fun c hc same => listed ?_
      obtain ⟨j, hj, rfl⟩ := List.mem_map.mp hc
      have own : j = i := of_decide_eq_true same
      exact own ▸ hj
    rw [sharesOf, missing, if_neg listed]
    rfl

/-! The needs of a contender (R75, R76). -/

theorem need_eq (bitrate speed : Nat) : need bitrate speed = (bitrate * speed + 7) / 8 := by
  rw [need, ceilDiv]
  omega

theorem Session.rungNeed_eq {x : Session} {l : Ladder} {e : Effective} (published : x.published = some l) (eff : x.eff = some e)
    (k : Nat) : x.rungNeed k = (l.bitrate k * e.speed + 7) / 8 := by
  rw [Session.rungNeed, Session.ladder_of_published published, Session.speed_of_eff eff, need_eq]

/-- What a follower adds to a leader's need (R76). -/
theorem State.followerNeed_spec (s : State) (k : Nat) (f : FollowerEntry) :
    ((s.session f.index).admin ≠ .streaming → s.followerNeed k f = 0) ∧
    ∀ (v : Ladder) (g : Effective) (b : Nat), (s.session f.index).admin = .streaming → (s.session f.index).published = some v →
      (s.session f.index).eff = some g → v.IsLowest b →
      ∃ m, IsHighest v.rungs.length (fun j => v.Allows b g.ceiling none j ∧ j ≤ (f.map[k]?).getD 0) b m ∧
        s.followerNeed k f = (v.bitrate m * g.speed + 7) / 8 := by
  unfold State.followerNeed
  refine ⟨fun still => ?_, fun v g b streaming published eff lowest => ?_⟩
  · exact if_neg (by simpa [Session.isStreaming] using still)
  · refine ⟨(s.session f.index).mappedRung f k, ?_, ?_⟩
    · exact Session.highestAllowed_isHighest published eff lowest none fun _ => decide_eq_true_iff
    · rw [if_pos (by simpa [Session.isStreaming] using streaming), Session.rungNeed_eq published eff]

end

/-- Settles O52: the allocation, the shares of the division, and the needs it divides by. -/
theorem sharesAndSpareMakeTheTotal : Obligations.SharesAndSpareMakeTheTotal := by
  rintro s t total floors contenders rfl htotal hcontenders hfloors
  obtain ⟨w, hw⟩ : ∃ w, w = divide s.allocatable s.shareClaims := ⟨_, rfl⟩
  have record (j : SessionIx) := s.recompute_session j
  have allocatable : s.allocatable = total := htotal.symm
  have claims := State.shareClaims_eq hcontenders
  have listed : ∀ i, i ∈ contenders ↔ (s.session i).isContender = true := fun i => by
    rw [hcontenders, List.mem_filter]
    exact and_iff_right (mem_allSessions i)
  have distinct : contenders.Nodup := hcontenders ▸ allSessions_nodup.filter _
  obtain ⟨sessions, sum, starved, fills⟩ := divide_sessions (cap := s.capNeed)
    (weight := fun i => (s.session i).profile.elim 0 Profile.weight) contenders (fun i _ => le_max_left (s.floorNeed i) _) total
  rw [← claims, ← allocatable, ← hw] at sessions sum starved fills
  rw [allocatable, ← hfloors] at starved fills
  rw [allocatable] at sum
  have names : (w.map Prod.fst).Nodup := sessions.nodup_iff.mpr distinct
  have shares (j : SessionIx) : (s.recompute.session j).shares = if j ∈ contenders then
      some { share := shareIn w j, floorNeed := s.floorNeed j, capNeed := s.capNeed j } else none := by
    rw [record, ← hw, claims]
    exact sharesOf_eq contenders w j
  have share (j : SessionIx) : (s.recompute.session j).shares.elim 0 Shares.share = shareIn w j := by
    rw [shares]
    by_cases contends : j ∈ contenders
    · rw [if_pos contends]
      rfl
    · rw [if_neg contends, shareIn_of_notMem fun h => contends (sessions.mem_iff.mp h)]
      rfl
  have own : ∀ i ∈ contenders, (i, shareIn w i) ∈ w := fun i hi => by
    obtain ⟨p, hp, rfl⟩ := List.mem_map.mp (sessions.mem_iff.mpr hi)
    rw [shareIn_of_mem names hp]
    exact hp
  have summed : (allSessions.map fun i => (s.recompute.session i).shares.elim 0 Shares.share).sum = (w.map Prod.snd).sum := by
    rw [List.map_congr_left fun j _ => share j]
    exact sum_shareIn allSessions_nodup names fun j _ => mem_allSessions j
  refine ⟨by rw [s.recompute_alloc, allocatable], ?_, ?_, fun i off => ?_, fun i contends => ?_, fun covered => ?_, fun i => ?_,
    ?_, fun i => ?_, ?_⟩
  · rw [summed, s.recompute_alloc, ← hw, allocatable]
    simp only
    omega
  · rw [s.recompute_alloc, claims, floorSum_claims, ← hfloors, allocatable, decide_eq_true_eq]
  · rw [shares, if_neg fun h => by simp [(listed i).mp h] at off]
  · have hi := (listed i).mpr contends
    refine ⟨{ share := shareIn w i, floorNeed := s.floorNeed i, capNeed := s.capNeed i }, by rw [shares, if_pos hi], rfl, rfl,
      fun short => ?_, fun covered => (fills covered).bounds (i, shareIn w i) (own i hi)⟩
    have part : shareIn w i = s.floorNeed i * total / floors := starved short (i, shareIn w i) (own i hi)
    refine ⟨part, part.le.trans (Nat.div_le_of_le_mul ?_)⟩
    rw [Nat.mul_comm floors]
    exact Nat.mul_le_mul_left _ short
  · refine (fills covered).filled _ fun p hp => ?_
    exact (share p.1).trans (shareIn_of_mem names hp)
  · simp [Session.isContender, Session.isStreaming, Session.follows_eq_false_iff]
  · intro i l e low contends published eff lowest
    have ladder := Session.ladder_of_published published
    refine ⟨by rw [State.floorNeed, ladder, lowest.lowest_eq], ⟨(s.session i).highestRung, ?_, rfl⟩, fun k => ?_⟩
    · exact (Session.highestAllowed_isHighest published eff lowest _ (test := fun _ => true) (P := fun _ => True)
        fun _ => by simp).congr fun j => iff_of_eq (and_true _)
    · refine ⟨(s.session i).followers.map (s.followerNeed k), ?_, List.length_map _, fun n f a hf ha => ?_⟩
      · rw [State.combinedNeed, Session.rungNeed_eq published eff]
      · rw [List.getElem?_map, hf] at ha
        obtain rfl : s.followerNeed k f = a := Option.some.inj ha
        exact s.followerNeed_spec k f
  · rw [record]
  · have work : SharesOnly s s.recompute := s.recompute_shares
    rw [work]

end Sys2Proof.Machine

/-! SUPPORT. The copy of a profile to followers, and PROFILE on a PRIMED or STREAMING session (R9 to R12, R148); O28. -/

namespace Sys2Proof.Machine

section
variable {x : Session} {p old own : Profile} {e : Effective} {now : Time}

/-! The steps of a re-profile, on one record (R9 to R11). -/

theorem Session.freshnessLimit_of_profile (profile : x.profile = some p) : x.freshnessLimit = p.freshnessLimit := by
  simp [Session.freshnessLimit, profile]

/-- A new freshness limit acts on the freshness supervision alone (R11). -/
theorem Session.refreshLimit_eq (profile : x.profile = some p) (now : Time) (old : Option Nat) :
    x.refreshLimit now old = { x with buffer := x.buffer.afterLimit old p.freshnessLimit now } := by
  unfold Session.refreshLimit BufferModel.afterLimit
  rw [Session.freshnessLimit_of_profile profile]
  cases p.freshnessLimit with
  | none => rfl
  | some f => cases h : x.buffer.playback <;> cases old <;> simp [h]

/-- The draw state follows draw kind and retry limit (R10). -/
theorem Session.reprofileDraw_eq (profile : x.profile = some p) (now : Time) (old : Profile) :
    x.reprofileDraw now old.drawKind = { x with draw := x.draw.afterProfile old p now } := by
  have unfolded : x.reprofileDraw now old.drawKind = if p.drawKind = old.drawKind then x.meetRetryLimit p.retryLimit
      else (Session.drawCleared { x with draw.stageClock := 0 }).startDraw now := by simp only [Session.reprofileDraw, profile]
  rw [unfolded, DrawState.afterProfile]
  by_cases kind : p.drawKind = old.drawKind
  · rw [if_pos kind, if_pos kind, Session.meetRetryLimit]
    by_cases used : p.retryLimit ≤ x.draw.retriesUsed
    · rw [if_pos used, if_neg (Nat.not_lt.mpr used)]
      cases h : x.draw.phase <;> simp only [h]
    · rw [if_neg used, if_pos (Nat.not_le.mp used)]
  · rw [if_neg kind, if_neg kind, Session.startDraw_eq (p := p) (by exact profile)]
    by_cases off : p.drawKind = .unwatched
    · simp only [off, if_true, Session.drawCleared]
      rfl
    · simp only [off, if_false, Session.drawCleared]

/-- The record of a re-profile, but for the cause that it may raise (R9 to R11). -/
theorem Session.reprofiled_eq (profile : x.profile = some old) (eff : x.eff = some e) (gives : p.effective = p.gives) :
    x.reprofiled now p = { x.afterProfile old p e now with causes := x.causes } := by
  have kind := Session.drawKind_of_profile profile
  have limit := Session.freshnessLimit_of_profile profile
  have speed : p.gives.speed = p.initialSpeed := rfl
  rw [Session.reprofiled, kind, limit, Session.setEffective_eq eff, gives, speed, Session.reprofileDraw_eq (p := p) rfl,
    Session.refreshLimit_eq (p := p) rfl]
  simp only [Session.afterProfile, eq_comm (a := p.initialSpeed)]

/-- RETRY_WAIT ends in LATCHED when the kept draw kind has its retries used up (R10, log entry 10). -/
theorem DrawState.afterProfile_latches {d : DrawState} (waiting : d.phase = .retryWait) :
    (d.afterProfile old p now).phase = .latched ↔ p.drawKind = old.drawKind ∧ p.retryLimit ≤ d.retriesUsed := by
  unfold DrawState.afterProfile
  by_cases kind : p.drawKind = old.drawKind
  · by_cases used : d.retriesUsed < p.retryLimit
    · simp [kind, used, waiting]
    · simp [kind, used, waiting, Nat.not_lt.mp used]
  · rw [if_neg kind]
    simp only [kind, false_and, iff_false]
    split <;> simp

/-! The copy to a follower (R148). -/

theorem Session.takeCopy_eq (x : Session) (now : Time) (p : Profile) : x.takeCopy now p = x.afterCopy p now := by
  unfold Session.takeCopy Session.afterCopy
  cases profile : x.profile with
  | none => rfl
  | some own =>
    simp only
    by_cases same : own.freshnessLimit = p.freshnessLimit
    · have same' : own.freshnessLimit = (copiedProfile p own).freshnessLimit := same
      rw [if_pos same', if_pos same]
      rfl
    · have same' : ¬ own.freshnessLimit = (copiedProfile p own).freshnessLimit := same
      rw [if_neg same', if_neg same, Session.refreshLimit_eq (p := copiedProfile p own) rfl]
      rfl

/-- A copy leaves the leader's profile on a record that holds it already. -/
theorem Session.afterCopy_profile (profile : x.profile = some p) : (x.afterCopy p now).profile = some p := by
  unfold Session.afterCopy
  simp only [profile]

end

section
variable {s t : State} {i : SessionIx} {p : Profile}

/-- The copy of a profile to a list of followers. -/
theorem State.foldl_copyProfile (fs : List FollowerEntry) (s : State) (profile : (s.session i).profile = some p) :
    fs.foldl (fun t f => t.copyProfile i f.index) s = fs.foldl (fun t f => t.modSession f.index fun y => y.afterCopy p s.time) s := by
  have time : ∀ (fs : List FollowerEntry) (t : State) (now : Time), t.time = now → (t.session i).profile = some p →
      fs.foldl (fun t f => t.copyProfile i f.index) t = fs.foldl (fun t f => t.modSession f.index fun y => y.afterCopy p now) t := by
    intro fs
    induction fs with
    | nil => exact fun _ _ _ _ => rfl
    | cons f fs ih =>
      intro t now ht profile
      have first : t.copyProfile i f.index = t.modSession f.index fun y => y.afterCopy p now := by
        simp only [State.copyProfile, profile, ht]
        exact State.modSession_congr (Session.takeCopy_eq _ _ _)
      rw [List.foldl_cons, List.foldl_cons, first]
      refine ih _ now ht ?_
      rw [State.modSession_session]
      split
      · exact Session.afterCopy_profile profile
      · exact profile
  exact time fs s s.time rfl profile

theorem State.copyToFollowers_eq (profile : (s.session i).profile = some p) : s.copyToFollowers i =
    (s.session i).followers.foldl (fun t f => t.modSession f.index fun y => y.afterCopy p s.time) s :=
  State.foldl_copyProfile _ s profile

/-- A copy moves no role. -/
theorem State.foldl_afterCopy_followers (fs : List FollowerEntry) (now : Time) (s : State) (j : SessionIx) :
    ((fs.foldl (fun t f => t.modSession f.index fun y => y.afterCopy p now) s).session j).followers = (s.session j).followers := by
  induction fs generalizing s with
  | nil => rfl
  | cons f fs ih =>
    rw [List.foldl_cons, ih, State.modSession_session]
    split
    · unfold Session.afterCopy
      split <;> rfl
    · rfl

theorem State.lowerToAllowed_onlyRungs (s : State) (i : SessionIx) : OnlyRungs s (s.lowerToAllowed i) := by
  unfold State.lowerToAllowed
  extract_lets x
  split
  · exact .refl s
  · split
    · exact s.moveRung_onlyRungs i _
    · exact .refl s

end

/-! The whole re-profile (R9 to R12, R148). -/

section
variable {s : State} {i : SessionIx} {p old : Profile} {e : Effective} {x : Session}

/-- The state behind the copies of a re-profile. -/
def State.reprofileCopied (s : State) (i : SessionIx) (old p : Profile) (e : Effective) : State :=
  (s.session i).followers.foldl (fun t f => t.modSession f.index fun y => y.afterCopy p s.time)
    ((s.modSession i fun y => y.afterProfile old p e s.time).lowerToAllowed i)

/-- The record that a re-profile stores, with the cause that it raises (R10). -/
theorem State.reprofile_raised (profile : (s.session i).profile = some old) (eff : (s.session i).eff = some e)
    (gives : p.effective = p.gives) :
    (if (s.session i).draw.phase = .retryWait && ((s.session i).reprofiled s.time p).draw.phase = .latched then
      (s.modSession i fun _ => (s.session i).reprofiled s.time p).raiseOn i .latched
    else s.modSession i fun _ => (s.session i).reprofiled s.time p) =
      s.modSession i fun y => y.afterProfile old p e s.time := by
  have record := Session.reprofiled_eq (now := s.time) profile eff gives
  have draw : ((s.session i).reprofiled s.time p).draw = (s.session i).draw.afterProfile old p s.time := by rw [record]; rfl
  rw [draw]
  by_cases waiting : (s.session i).draw.phase = .retryWait
  · have latches := DrawState.afterProfile_latches (old := old) (p := p) (now := s.time) waiting
    by_cases latched : p.drawKind = old.drawKind ∧ p.retryLimit ≤ (s.session i).draw.retriesUsed
    · rw [if_pos (by simp [waiting, latches.mpr latched]), State.raiseOn, State.modSession_modSession]
      refine State.modSession_congr ?_
      rw [record]
      simp only [Session.afterProfile, if_pos (show _ ∧ _ ∧ _ from ⟨latched.1, latched.2, waiting⟩)]
    · rw [if_neg (by simp [mt latches.mp latched])]
      refine State.modSession_congr ?_
      rw [record]
      have silent : ¬ (p.drawKind = old.drawKind ∧ p.retryLimit ≤ (s.session i).draw.retriesUsed ∧
          (s.session i).draw.phase = .retryWait) := fun h => latched ⟨h.1, h.2.1⟩
      simp only [Session.afterProfile, if_neg silent]
  · rw [if_neg (by simp [waiting])]
    refine State.modSession_congr ?_
    rw [record]
    have silent : ¬ (p.drawKind = old.drawKind ∧ p.retryLimit ≤ (s.session i).draw.retriesUsed ∧
        (s.session i).draw.phase = .retryWait) := fun h => waiting h.2.2
    simp only [Session.afterProfile, if_neg silent]

/-- Which of the values that the shares are computed from a re-profile changes (R82). -/
theorem Session.shareInputs_ne_iff (profile : x.profile = some old) (eff : x.eff = some e) (now : Time) :
    x.shareInputs ≠ (x.afterProfile old p e now).shareInputs ↔ (p.weight ≠ old.weight ∨ p.initialSpeed ≠ e.speed ∨
      p.defaultCeiling ≠ e.ceiling ∨ (x.draw.afterProfile old p now).cap ≠ x.draw.cap) := by
  have before : x.shareInputs = (old.weight, e.speed, e.ceiling, x.draw.cap) := by
    simp [Session.shareInputs, Session.weight, profile, Session.speed_of_eff eff, Session.ceiling_of_eff eff]
  have after : (x.afterProfile old p e now).shareInputs =
      (p.weight, p.initialSpeed, p.defaultCeiling, (x.draw.afterProfile old p now).cap) := rfl
  rw [before, after]
  simp only [ne_eq, Prod.mk.injEq, not_and_or, eq_comm (a := old.weight), eq_comm (a := e.speed), eq_comm (a := e.ceiling),
    eq_comm (a := x.draw.cap)]

theorem State.reprofileCopied_eq (profile : (s.session i).profile = some old) (eff : (s.session i).eff = some e)
    (gives : p.effective = p.gives) :
    (((if (s.session i).draw.phase = .retryWait && ((s.session i).reprofiled s.time p).draw.phase = .latched then
      (s.modSession i fun _ => (s.session i).reprofiled s.time p).raiseOn i .latched
    else s.modSession i fun _ => (s.session i).reprofiled s.time p).lowerToAllowed i).copyToFollowers i) =
      s.reprofileCopied i old p e := by
  rw [State.reprofile_raised profile eff gives]
  obtain ⟨v, hv⟩ : ∃ v, v = (s.modSession i fun y => y.afterProfile old p e s.time).lowerToAllowed i := ⟨_, rfl⟩
  have record : (s.modSession i fun y => y.afterProfile old p e s.time).session i = (s.session i).afterProfile old p e s.time :=
    State.modSession_session_self _ _ _
  have lowered : OnlyRungs (s.modSession i fun y => y.afterProfile old p e s.time) v := hv ▸ State.lowerToAllowed_onlyRungs _ i
  have records : RecordsOnly (s.modSession i fun y => y.afterProfile old p e s.time) v := hv ▸ State.lowerToAllowed_records _ i
  have held : (v.session i).profile = some p := by
    rw [lowered.keeps Session.profile fun _ => rfl, record]
    rfl
  have followers : (v.session i).followers = (s.session i).followers := by
    rw [lowered.keeps Session.followers fun _ => rfl, record]
    rfl
  have time : v.time = s.time := by
    rw [records]
    rfl
  rw [State.reprofileCopied, ← hv, State.copyToFollowers_eq held, followers, time]

/-- Behind a copy the followers' targets and guards have changed when those of one of them have (R148). -/
theorem State.followerTargets_ne_iff {t : State} (followers : (t.session i).followers = (s.session i).followers) :
    t.followerTargets i ≠ s.followerTargets i ↔ ∃ f ∈ (s.session i).followers,
      ((t.session f.index).eff.map fun g => (g.target, g.lowGuard, g.panicLevel)) ≠
        (s.session f.index).eff.map fun g => (g.target, g.lowGuard, g.panicLevel) := by
  rw [State.followerTargets, State.followerTargets, followers, ne_eq, List.map_inj_left]
  push Not
  rfl

theorem State.reprofileCopied_followers :
    ((s.reprofileCopied i old p e).session i).followers = (s.session i).followers := by
  rw [State.reprofileCopied, State.foldl_afterCopy_followers,
    (State.lowerToAllowed_onlyRungs _ i).keeps Session.followers fun _ => rfl, State.modSession_session_self]
  rfl

end

/-- Settles O28: a follower is refused; the record, the copies, the recomputation and the examination of any other session. -/
theorem reprofileRenewsTheSession : Obligations.ReprofileRenewsTheSession := by
  intro s b n i p old e x copied shared examined hears named opened profile eff hp hx
  subst hp hx
  have admitted : (s.session i).admin ≠ .vacant := by rcases opened with h | h <;> rw [h] <;> decide
  have body := State.sessionNote_admitted (s := s) (n := n) named (admission_anySession.mpr admitted) fun i n =>
    if (s.session i).follows then refuseWith s .tethered
    else if (s.session i).admin = .unprofiled then (s.prime i n.build, Answer.done n.clamped)
    else (s.reprofile i n.build, Answer.done n.clamped)
  refine ⟨fun l follows => ?_, fun free hcopied hshared hexamined => ?_⟩
  · refine hears.refuses (c := .profile (some n)) rfl (body.trans (if_pos ?_))
    rw [Session.follows, follows]
  · have alone : (s.session i).follows = false := (Session.follows_eq_false_iff _).mpr free
    have profiled : (s.session i).admin ≠ .unprofiled := by rcases opened with h | h <;> rw [h] <;> decide
    obtain ⟨guard, panic⟩ := build_guards n
    have gives : n.build.effective = n.build.gives := rfl
    obtain rfl : copied = s.reprofileCopied i old n.build e := hcopied
    have record := Session.reprofiled_eq (now := s.time) profile eff gives
    have inputs : ((s.session i).reprofiled s.time n.build).shareInputs =
        ((s.session i).afterProfile old n.build e s.time).shareInputs := by rw [record]; rfl
    have targets : (s.session i).targets = some (e.target, e.lowGuard, e.panicLevel) := by simp [Session.targets, eff]
    have targets' : ((s.session i).reprofiled s.time n.build).targets =
        some (n.build.bufferTarget, n.build.lowGuard, n.build.panicLevel) := by
      rw [record]
      simp [Session.targets, Session.afterProfile, Profile.gives, min_eq_left guard, min_eq_left panic]
    have speed : ((s.session i).reprofiled s.time n.build).speed = n.build.initialSpeed := by rw [record]; rfl
    have limit : ((s.session i).reprofiled s.time n.build).outstandingLimit = n.build.outstandingLimit := by rw [record]; rfl
    have shares : (if (s.session i).isContender &&
        decide ((s.session i).shareInputs ≠ ((s.session i).reprofiled s.time n.build).shareInputs) then
          (s.reprofileCopied i old n.build e).recompute else s.reprofileCopied i old n.build e) = shared := by
      rw [hshared]
      refine if_congr ?_ rfl rfl
      rw [Bool.and_eq_true, decide_eq_true_eq, inputs, Session.isContender_iff free, Session.shareInputs_ne_iff profile eff]
    have renewed : s.reprofile i n.build = examined := by
      simp only [State.reprofile, State.reprofileCopied_eq profile eff gives]
      rw [shares, hexamined]
      refine if_congr ?_ rfl rfl
      simp only [Bool.or_eq_true, decide_eq_true_eq, State.followerTargets_ne_iff State.reprofileCopied_followers, targets, targets',
        speed, limit, Session.speed_of_eff eff, Session.outstandingLimit_of_profile profile, ne_eq, Option.some.injEq,
        eq_comm (a := e.speed), eq_comm (a := old.outstandingLimit), eq_comm (a := (e.target, e.lowGuard, e.panicLevel)), or_assoc]
    have result : s.profileBody (some n) = (examined, Answer.done n.clamped) := by
      refine body.trans ?_
      rw [if_neg (by simp [alone]), if_neg profiled, renewed]
    exact hears.doesAtGate (c := .profile (some n)) rfl result (renewed ▸ s.reprofile_gateWork i n.build) rfl

end Sys2Proof.Machine

/-! SUPPORT. What an examination leaves of a record that is not WATCHING, and TETHER (R146 to R149); O35. -/

namespace Sys2Proof.Machine

/-! Examinations. -/

/-- The record with everything cleared that a grant or an examination sets on a session that is not WATCHING. -/
def Session.apartFromGrants (x : Session) : Session :=
  { x.apartFromRung with nextTag := 0, expiredTags := [], drainTimer := none }

/-- A reading of a record that leaves aside what grants set. -/
theorem Session.of_apartFromGrants {α : Type} {x y : Session} (F : Session → α) (aside : ∀ z, F z = F z.apartFromGrants)
    (h : x.apartFromGrants = y) : F x = F y := by
  rw [aside, h]

/-- Sessions that are not WATCHING keep their records apart from what grants set. -/
def Unwatched (s t : State) : Prop :=
  ∀ j, (s.session j).draw.phase ≠ .watching → (t.session j).apartFromGrants = (s.session j).apartFromGrants

section
variable {s t u : State} {i j : SessionIx}

theorem Unwatched.refl (s : State) : Unwatched s s := fun _ _ => rfl

theorem Unwatched.trans (h : Unwatched s t) (k : Unwatched t u) : Unwatched s u := fun j still => by
  have phase : (t.session j).draw.phase = (s.session j).draw.phase := (congrArg (fun x : Session => x.draw.phase) (h j still) :)
  exact (k j (phase ▸ still)).trans (h j still)

theorem OnlyRungs.unwatched (h : OnlyRungs s t) : Unwatched s t := fun j _ =>
  congrArg (fun x : Session => { x with nextTag := 0, expiredTags := [], drainTimer := none }) (h j)

theorem Unwatched.of_apart (h : t.apartFromReports = s.apartFromReports) : Unwatched s t := fun j _ => by
  rw [State.session_of_apart h]

theorem State.tellGrant_unwatched (s : State) (i : SessionIx) : Unwatched s (s.tellGrant i) := fun j still => by
  rw [State.tellGrant_session, if_neg fun opens => still opens.2.2.1]

theorem State.fillSlot_unwatched (s : State) (a : Ask) (k : SlotIx) (tag : Byte) : Unwatched s (s.fillSlot a k tag) := fun j _ => by
  rw [State.fillSlot_session]
  split <;> rfl

theorem State.grant_unwatched (s : State) (a : Ask) : Unwatched s (s.grant a) := by
  unfold State.grant
  extract_lets judged tag
  have judges : Unwatched s judged := fun j still => (State.judge_onlyRungs (s.removeAsk a.session) a.session).unwatched j still
  split
  · exact judges
  · extract_lets filled
    exact ((judges.trans (judged.fillSlot_unwatched a _ _)).trans (filled.tellGrant_unwatched _)).trans
      (.of_apart (State.originate_apart _ _))

theorem State.grantLoop_unwatched (n : Nat) (s : State) : Unwatched s (State.grantLoop n s) := by
  induction n generalizing s with
  | zero => exact .refl s
  | succ n ih =>
    unfold State.grantLoop
    split
    · exact .refl s
    · split
      · exact (s.grant_unwatched _).trans (ih _)
      · exact s.grant_unwatched _

theorem State.examine_unwatched (s : State) : Unwatched s s.examine := by
  have drained : Unwatched (State.grantLoop s.gate.askQueue.length s) s.examine := fun j _ => by
    rw [State.examine, State.setDrainTimers_session]
    rfl
  exact (State.grantLoop_unwatched _ s).trans drained

/-- Without an ask in the queue an examination sets drain timers alone. -/
theorem State.examine_of_empty (empty : s.gate.askQueue = []) : s.examine = s.setDrainTimers := by
  have idle : s.chooseAsk = none := State.chooseAsk_eq_none_iff.mpr (by simp [empty])
  rw [State.examine, State.grantLoop_of_none idle]

end

/-! The checks of a TETHER (R3, R146). -/

section
variable {s : State} {l f : SessionIx}

theorem State.tetherPasses_two_iff : s.TetherPasses l f 2 ↔
    ((s.session l).isTetherable && (s.session f).isTetherable) = true := by
  rw [Bool.and_eq_true, Session.isTetherable_iff, Session.isTetherable_iff]
  exact ⟨fun h => ⟨h l (.inl rfl), h f (.inr rfl)⟩, fun h i hi => hi.elim (fun e => e ▸ h.1) fun e => e ▸ h.2⟩

/-- Only the numbers 1 to 5 are checks. -/
theorem State.check_of_not_tetherPasses : ∀ {k : Nat}, ¬ s.TetherPasses l f k → 1 ≤ k ∧ k ≤ 5
  | 0, h => (h trivial).elim
  | 1, _ | 2, _ | 3, _ | 4, _ | 5, _ => by decide
  | _ + 6, h => (h trivial).elim

/-- The fault of a TETHER is its first failing check, once both sessions are PRIMED or STREAMING (R146). -/
theorem State.tetherFault_eq_some {k : Nat} (members : s.TetherPasses l f 2) (before : ∀ j, j < k → s.TetherPasses l f j)
    (fails : ¬ s.TetherPasses l f k) : s.tetherFault l f = some k := by
  obtain ⟨lo, hi⟩ := State.check_of_not_tetherPasses fails
  have tetherable := State.tetherPasses_two_iff.mp members
  unfold State.tetherFault
  rw [if_neg (by simp [tetherable])]
  obtain rfl | h1 : k = 1 ∨ 1 < k := by omega
  · exact if_pos (not_not.mp fails)
  rw [if_neg (before 1 h1)]
  obtain rfl | h2 : k = 2 ∨ 2 < k := by omega
  · exact absurd members fails
  obtain rfl | h3 : k = 3 ∨ 3 < k := by omega
  · refine if_pos ?_
    rw [← Bool.not_eq_false, Session.follows_eq_false_iff]
    exact fails
  rw [if_neg (by rw [Bool.not_eq_true, Session.follows_eq_false_iff]; exact before 3 h3)]
  obtain rfl | h4 : k = 4 ∨ 4 < k := by omega
  · exact if_pos fails
  rw [if_neg (not_not.mpr (show (s.session f).role = .independent from before 4 h4))]
  obtain rfl : k = 5 := by omega
  exact if_pos (Nat.not_lt.mp fails)

theorem State.tetherFault_of_passes (passes : ∀ k, s.TetherPasses l f k) : s.tetherFault l f = none := by
  have tetherable := State.tetherPasses_two_iff.mp (passes 2)
  have one : l ≠ f := passes 1
  have three : (s.session l).follows = false := (Session.follows_eq_false_iff _).mpr (passes 3)
  have four : (s.session f).role = .independent := passes 4
  have five : (s.session l).followers.length < 3 := passes 5
  unfold State.tetherFault
  rw [if_neg (by simp [tetherable]), if_neg one, if_neg (by simp [three]), if_neg (by simp [four]), if_neg (by omega)]

end

/-! The follower's record (R147). -/

section
variable {x : Session} {p own : Profile} {l : SessionIx} {now : Time}

theorem Session.becomeFollower_eq (profile : x.profile = some own) : x.becomeFollower now l p = { x with
    role := .follower l
    profile := some { p with
      uplinkPriority := own.uplinkPriority, outstandingLimit := own.outstandingLimit, pins := own.pins
      initialSpeed := own.initialSpeed, defaultCeiling := own.defaultCeiling }
    eff := x.eff.map fun g => { g with
      target := p.bufferTarget, targetSource := if own.pins.target then .pinned else .profile
      lowGuard := min p.lowGuard p.bufferTarget, panicLevel := min p.panicLevel (min p.lowGuard p.bufferTarget) }
    buffer := if own.freshnessLimit = p.freshnessLimit then x.buffer
              else x.buffer.afterLimit own.freshnessLimit p.freshnessLimit now
    estimates := none, missRun := 0
    draw := { x.draw with
      phase := .off, cap := none, retryTimer := none, retriesUsed := 0, stageClock := 0, overTime := 0, quietRun := 0
      openMark := false, penaltyMark := false } } := by
  have copied : Session.takeCopy { x with role := .follower l } now p = { x with
      role := .follower l
      profile := some { p with
        uplinkPriority := own.uplinkPriority, outstandingLimit := own.outstandingLimit, pins := own.pins
        initialSpeed := own.initialSpeed, defaultCeiling := own.defaultCeiling }
      eff := x.eff.map fun g => { g with
        target := p.bufferTarget, targetSource := if own.pins.target then .pinned else .profile
        lowGuard := min p.lowGuard p.bufferTarget, panicLevel := min p.panicLevel (min p.lowGuard p.bufferTarget) }
      buffer := if own.freshnessLimit = p.freshnessLimit then x.buffer
                else x.buffer.afterLimit own.freshnessLimit p.freshnessLimit now } := by
    rw [Session.takeCopy_eq, Session.afterCopy]
    simp only [profile]
  rw [Session.becomeFollower, copied]
  rfl

end

/-! The effects of a TETHER (R147). -/

section
variable {s : State} {l f : SessionIx} {p own : Profile} {map : Option (List Nat)}

/-- The state behind the first four steps of R147, before the follower's rung is derived. -/
def State.tied (s : State) (l f : SessionIx) (p : Profile) (map : Option (List Nat)) : State :=
  (s.modSession l fun x => { x with role := x.role.join ((s.session f).followerEntry f map) }).modSession f fun x =>
    x.becomeFollower s.time l p

theorem State.bind_eq (profile : (s.session l).profile = some p) : s.bind l f map = (s.tied l f p map).deriveFollower l f := by
  simp only [State.bind, profile]
  rfl

theorem State.tied_follower (other : l ≠ f) : (s.tied l f p map).session f = (s.session f).becomeFollower s.time l p := by
  rw [State.tied, State.modSession_session_self, State.modSession_session_ne _ _ _ _ other.symm]

theorem State.tied_leader (other : l ≠ f) : (s.tied l f p map).session l =
    { s.session l with role := (s.session l).role.join ((s.session f).followerEntry f map) } := by
  rw [State.tied, State.modSession_session_ne _ _ _ _ other, State.modSession_session_self]

theorem State.deriveFollower_onlyRungs (s : State) (l f : SessionIx) : OnlyRungs s (s.deriveFollower l f) := by
  unfold State.deriveFollower
  split
  · exact .refl s
  · exact s.derive_onlyRungs l _

/-- A TETHER ends with the recomputation, or with the examination that changed targets cause (R147). -/
theorem State.tether_cases (s : State) (l f : SessionIx) (map : Option (List Nat)) :
    s.tether l f map = (s.bind l f map).recompute ∨ s.tether l f map = (s.bind l f map).recompute.examine := by
  unfold State.tether
  extract_lets t
  split
  · exact .inl rfl
  · exact .inr rfl

/-- Behind a TETHER the follower's record is the one of R147, apart from its rung and, when the queue is examined, from what a
grant sets. -/
theorem State.tether_follower (profile : (s.session l).profile = some p) (own' : (s.session f).profile = some own) (other : l ≠ f) :
    ((s.tether l f map).session f).apartFromGrants =
      { ((s.session f).becomeFollower s.time l p).apartFromGrants with shares := none } := by
  have bound : OnlyRungs (s.tied l f p map) (s.bind l f map) := State.bind_eq profile ▸ State.deriveFollower_onlyRungs _ l f
  have record := bound f
  rw [State.tied_follower other] at record
  have uncontended : ((s.bind l f map).session f).isContender = false := by
    have role := bound.keeps Session.role (fun _ => rfl) f
    rw [State.tied_follower other, Session.becomeFollower_eq own'] at role
    simp [Session.isContender, Session.follows, role]
  obtain ⟨-, -, -, unshared, -⟩ := sharesAndSpareMakeTheTotal (s.bind l f map) _ _ _ _ rfl rfl rfl rfl
  have shared : ((s.bind l f map).recompute.session f).apartFromGrants =
      { ((s.session f).becomeFollower s.time l p).apartFromGrants with shares := none } := by
    have shares := unshared f uncontended
    rw [State.recompute_session] at shares ⊢
    simp only at shares
    rw [shares]
    exact congrArg (fun x : Session => { x with nextTag := 0, expiredTags := [], drainTimer := none, shares := none }) record
  have still : ((s.bind l f map).recompute.session f).draw.phase ≠ .watching := by
    rw [Session.of_apartFromGrants (fun x => x.draw.phase) (fun _ => rfl) shared, Session.becomeFollower_eq own']
    exact nofun
  obtain ⟨v, hv⟩ : ∃ v, v = (s.bind l f map).recompute := ⟨_, rfl⟩
  rw [← hv] at shared still
  rcases State.tether_cases s l f map with done | done
  · rw [done, ← hv]
    exact shared
  · rw [done, ← hv]
    exact (v.examine_unwatched f still).trans shared

/-- The role that each session has behind a TETHER (R145, R147). -/
theorem State.tether_role (profile : (s.session l).profile = some p) (other : l ≠ f) (j : SessionIx) :
    ((s.tether l f map).session j).role = if j = f then .follower l
      else if j = l then (s.session l).role.join ((s.session f).followerEntry f map) else (s.session j).role := by
  have kept : SameBearing (s.bind l f map) (s.tether l f map) := by
    have shared : SameBearing (s.bind l f map) (s.bind l f map).recompute := (State.recompute_stands _).bearing
    rcases State.tether_cases s l f map with done | done
    · exact done ▸ shared
    · exact done ▸ shared.trans (State.examine_stands _).bearing
  have bound := State.bind_bearing (s := s) (m := map) (by rw [profile]; exact nofun) other j
  rw [kept.role]
  split at bound
  · next same => rw [if_pos same, Session.role_of_bearing bound]
  · next first =>
    rw [if_neg first]
    split at bound
    · next same => rw [if_pos same, Session.role_of_bearing bound]
    · next second =>
      rw [if_neg second]
      exact Session.role_of_bearing bound

/-- A recomputation keeps every rung. -/
theorem State.recompute_rung (s : State) (j : SessionIx) : (s.recompute.session j).rung = (s.session j).rung := by
  rw [State.recompute_session]

/-- An examination of an empty queue keeps every rung. -/
theorem State.examine_rung_of_empty (empty : s.gate.askQueue = []) (j : SessionIx) :
    (s.examine.session j).rung = (s.session j).rung := by
  rw [State.examine_of_empty empty, State.setDrainTimers_session]

/-- The new follower is bound before the shares are recomputed, and no queued ask moves its rung afterwards. -/
theorem State.tether_rung_of_empty (empty : s.gate.askQueue = []) (j : SessionIx) :
    ((s.tether l f map).session j).rung = ((s.bind l f map).session j).rung := by
  have queue : (s.bind l f map).recompute.gate.askQueue = [] := by
    have shares : SharesOnly (s.bind l f map) (s.bind l f map).recompute := State.recompute_shares _
    have records : RecordsOnly s (s.bind l f map) := s.bind_records l f map
    have gate : (s.bind l f map).recompute.gate = (s.bind l f map).gate := by rw [shares]
    rw [gate, records.gate_path.1, empty]
  rcases State.tether_cases s l f map with done | done
  · rw [done, State.recompute_rung]
  · rw [done, State.examine_rung_of_empty queue, State.recompute_rung]

/-- A STREAMING follower's rung is derived through its new map, when no ask waits to be granted (R103, R147). -/
theorem State.tether_rung {d : Ladder} {g : Effective} {r low : Nat} (profile : (s.session l).profile = some p)
    (own' : (s.session f).profile = some own) (other : l ≠ f) (free : (s.session l).follows = false)
    (empty : s.gate.askQueue = []) (unlisted : ∀ h ∈ (s.session l).followers, h.index ≠ f)
    (streaming : (s.session f).admin = .streaming) (published : (s.session f).published = some d)
    (eff : (s.session f).eff = some g) (rung : (s.session l).rung = some r) (lowest : d.IsLowest low) :
    ∃ k, ((s.tether l f map).session f).rung = some k ∧
      IsHighest d.rungs.length (fun k => d.Allows low g.ceiling none k ∧ k ≤ (((s.session f).followerEntry f map).map[r]?).getD 0)
        low k := by
  obtain ⟨v, hv⟩ : ∃ v, v = s.tied l f p map := ⟨_, rfl⟩
  have leader : v.session l = _ := hv ▸ State.tied_leader other
  have follower : v.session f = _ := hv ▸ (State.tied_follower other).trans (Session.becomeFollower_eq own')
  have followers : (v.session l).followers = (s.session l).followers ++ [(s.session f).followerEntry f map] := by
    rw [leader, Session.followers]
    simp only [Session.join_eq _ free]
  have entry : (v.session l).entryFor f = some ((s.session f).followerEntry f map) := by
    have before : (s.session l).followers.find? (fun e => decide (e.index = f)) = none :=
      List.find?_eq_none.mpr fun e he => by simpa using unlisted e he
    rw [Session.entryFor, followers, List.find?_append, before]
    simp [Session.followerEntry_index]
  have leads : (v.session l).rung = some r := by
    rw [leader]
    exact rung
  have on : (v.session f).isStreaming = true := by
    rw [follower]
    simp [Session.isStreaming, streaming]
  have bound : s.bind l f map = v.modSession f fun x => x.moveTo (x.mappedRung ((s.session f).followerEntry f map) r) := by
    rw [State.bind_eq profile, ← hv]
    simp only [State.deriveFollower, entry, State.derive, leads, Session.followerEntry_index, on, if_true]
  have moved : ((s.tether l f map).session f).rung = some ((v.session f).mappedRung ((s.session f).followerEntry f map) r) := by
    rw [State.tether_rung_of_empty empty, bound, State.modSession_session_self, Session.moveTo_eq]
    rfl
  refine ⟨_, moved, ?_⟩
  have eff' : (v.session f).eff = some { g with
      target := p.bufferTarget, targetSource := if own.pins.target then .pinned else .profile
      lowGuard := min p.lowGuard p.bufferTarget, panicLevel := min p.panicLevel (min p.lowGuard p.bufferTarget) } := by
    rw [follower, eff]
    rfl
  exact Session.highestAllowed_isHighest (by rw [follower]; exact published) eff' lowest none fun _ => decide_eq_true_iff

end

/-- A whole TETHER is taken as it stands (R2). -/
theorem tetherNote_filter_of_whole {n : TetherNote} (whole : n.malformed = false) :
    (some n).filter (fun n => !n.malformed) = some n := by
  simp [Option.filter, whole]

/-- A TETHER that names an index above 15 names no two sessions (R2). -/
theorem State.tetherBody_of_beyond {s : State} {n : TetherNote} (whole : n.malformed = false)
    (beyond : 15 < n.leader ∨ 15 < n.follower) : s.tetherBody (some n) = refuseWith s .badSession := by
  simp only [State.tetherBody, tetherNote_filter_of_whole whole]
  cases first : sessionIx? n.leader with
  | none => rfl
  | some l =>
    cases second : sessionIx? n.follower with
    | none => rfl
    | some f =>
      have := eq_val_of_sessionIx? first
      have := eq_val_of_sessionIx? second
      omega

/-- A TETHER of two sessions is answered with its fault (R146). -/
theorem State.tetherBody_of_fault {s : State} {n : TetherNote} {l f : SessionIx} {k : Nat} (whole : n.malformed = false)
    (leader : n.leader = l.val) (follower : n.follower = f.val) (fault : s.tetherFault l f = some k) :
    s.tetherBody (some n) = (s, { code := .tetherInvalid, detail := some k }) := by
  simp only [State.tetherBody, tetherNote_filter_of_whole whole, leader, follower, sessionIx?_val, fault]

/-- A TETHER of two sessions without a fault ties them (R147). -/
theorem State.tetherBody_of_passes {s : State} {n : TetherNote} {l f : SessionIx} (whole : n.malformed = false)
    (leader : n.leader = l.val) (follower : n.follower = f.val) (passes : ∀ k, s.TetherPasses l f k) :
    s.tetherBody (some n) = (s.tether l f n.map, Answer.done (mapClamped n.map)) := by
  simp only [State.tetherBody, tetherNote_filter_of_whole whole, leader, follower, sessionIx?_val,
    State.tetherFault_of_passes passes]

/-- The map entries of a TETHER, given or by default (R149). -/
theorem Session.followerEntry_map (x : Session) (f : SessionIx) (map : Option (List Nat)) {k : Nat} (h : k < 12) :
    (x.followerEntry f map).map[k] = map.elim (min k (x.published.elim 12 (fun d => d.rungs.length) - 1))
      fun m => min 11 (m.getD k (m.getLast?.getD 0)) := by
  cases map with
  | none => simp only [Session.followerEntry, defaultMap, Vector.getElem_ofFn, Option.elim_none]; rfl
  | some m =>
    simp only [Session.followerEntry, givenMap, Vector.getElem_ofFn, Option.elim_some, List.getD_eq_getElem?_getD]

/-- Settles O35: the bound follower field by field, and each refusal with its first failing check. -/
theorem tetherFormsTheFollowerOrFails : Obligations.TetherFormsTheFollowerOrFails := by
  refine ⟨fun s b n l f p own hears leader follower whole passes profile own' => ?_, fun s b n hears whole => ⟨fun beyond => ?_,
    fun l f leader follower => ⟨fun still => ?_, fun k members before fails => ?_⟩⟩⟩
  · have other : l ≠ f := passes 1
    have free : (s.session l).follows = false := (Session.follows_eq_false_iff _).mpr (passes 3)
    have record := State.tether_follower (map := n.map) profile own' other
    have roles := State.tether_role (map := n.map) profile other
    rw [Session.becomeFollower_eq own'] at record
    refine ⟨s.tether l f n.map,
      hears.doesAtGate (c := .tether (some n)) rfl (State.tetherBody_of_passes whole leader follower passes)
        (s.tether_gateWork l f n.map) rfl,
      ⟨(s.session f).followerEntry f n.map, ?_, Session.followerEntry_index _ _ _, ?_, fun k hk => ?_, ?_⟩, ?_,
      Session.of_apartFromGrants Session.profile (fun _ => rfl) record, Session.of_apartFromGrants Session.eff (fun _ => rfl) record,
      Session.of_apartFromGrants Session.buffer (fun _ => rfl) record,
      Session.of_apartFromGrants Session.estimates (fun _ => rfl) record,
      Session.of_apartFromGrants Session.missRun (fun _ => rfl) record,
      Session.of_apartFromGrants Session.shares (fun _ => rfl) record,
      Session.of_apartFromGrants Session.draw (fun _ => rfl) record, fun j first second => ?_⟩
    · rw [roles, if_neg other, if_pos rfl, Session.join_eq _ free]
    · cases n.map <;> rfl
    · rw [Session.followerEntry_map]
      cases n.map <;> rfl
    · intro d r g low empty unlisted streaming published eff rung _ inside usable below
      obtain ⟨k, own, highest⟩ := State.tether_rung (map := n.map) profile own' other free empty unlisted streaming published eff
        rung ⟨inside, usable, below⟩
      refine ⟨k, own, highest.congr fun j => ?_⟩
      simp only [Ladder.Allows, reduceCtorEq, false_implies, implies_true, and_true, and_assoc]
    · rw [roles, if_pos rfl]
    · rw [roles, if_neg second, if_neg first]
  · exact hears.refuses (c := .tether (some n)) rfl (State.tetherBody_of_beyond whole beyond)
  · refine hears.doesAtGate (c := .tether (some n)) rfl (State.tetherBody_of_fault whole leader follower ?_) (GateWork.refl s) rfl
    exact if_pos (by simpa [imp_iff_not_or] using mt State.tetherPasses_two_iff.mpr still)
  · exact hears.doesAtGate (c := .tether (some n)) rfl (State.tetherBody_of_fault whole leader follower
      (State.tetherFault_eq_some members before fails)) (GateWork.refl s) rfl

end Sys2Proof.Machine
